-- ==== Sys2Proof/Word.lean ====
section
/-! DEFINITION. The word types of the block (spec/00_scope.md rules R8, R9): every value is an unsigned bit vector whose
bit 0 is the least significant. -/

namespace Sys2Proof

/-- A data byte: 8 bits (R8, "byte width"). -/
abbrev Byte := BitVec 8

/-- A 7-bit slave address (R8 `ADDR_BITS`). -/
abbrev SlaveAddr := BitVec 7

/-- A command word, presented whole on `cmd_word[19:0]` (R8 `CMD_BITS`, spec/30_encoding.md rule R90). -/
abbrev CmdWord := BitVec 20

/-- An internal order word, `UOP` in bits 11:8 and `ARG` in bits 7:0 (spec/30_encoding.md rule R99). -/
abbrev OrdWord := BitVec 12

end Sys2Proof
end

