-- ==== Sys2Proof/Config.lean ====
section
/-! DEFINITION. What an implementation fixes and the spec leaves open: the parameters of spec/00_scope.md rule R8 and the
free values of spec/93_implementation_defined.md. The free values are opaque constants: no proof can know their values. -/

namespace Sys2Proof

/-- One less than `T_HALF`, so that `T_HALF` is greater than 0 as R8 says. OPEN (93 U3, log 8). -/
opaque Config.tHalfPred : Nat

/-- `T_HALF`, the lower bound of every `wait()` (R8, spec/40_signal_primitives.md rule R121), in an unstated unit. -/
def Config.tHalf : Nat := Config.tHalfPred + 1

/-- The default of `FINAL_NACK` (R8, spec/42_transactions.md rule R169). The parameter itself is the field `finalNack` of
State, which no step writes (log 7). -/
def Config.finalNackDefault : Bool := false

/-- FREE VALUE (93 U8, log 4): the byte of BUF at an index that nothing has written since power-up, "an arbitrary byte,
fixed once drawn". -/
opaque Config.bufPowerUp : Byte → Byte

/-- FREE VALUE (93 U7, log 3): what the environment applies to the data line at the sample with this number, where State
does not hold its answer. -/
opaque Config.envSda : Nat → Bool

end Sys2Proof
end

