-- ==== Sys2Proof/Syntax.lean ====
section
/-! DEFINITION. The 15 operations of the block (spec/00_scope.md rule R3; spec/opcode_table.json): the five commands the
host can issue and the ten internal operations only commands invoke. -/

namespace Sys2Proof

/-- One constructor per row of spec/opcode_table.json. The operand types have the widths of the fields, so an address
above 127 or a count above 255 cannot be written down (spec/30_encoding.md rule R92). -/
inductive Instr where
  /-- `WRITE addr, n` (R164) -/
  | write (addr : SlaveAddr) (n : Byte)
  /-- `READ addr, n` (R165) -/
  | read (addr : SlaveAddr) (n : Byte)
  /-- `WRITE_BEGIN addr` (R161) -/
  | writeBegin (addr : SlaveAddr)
  /-- `WRITE_BLOCK n` (R162) -/
  | writeBlock (n : Byte)
  /-- `WRITE_END` (R163) -/
  | writeEnd
  /-- `wait_half_period()` (R121) -/
  | waitHalfPeriod
  /-- `write_bit(x)` (R122); `true` is 1, released -/
  | writeBit (x : Bool)
  /-- `read_bit()` (R123) -/
  | readBit
  /-- `write_start()` (R124) -/
  | writeStart
  /-- `write_stop()` (R125) -/
  | writeStop
  /-- `read_ack()` (R126) -/
  | readAck
  /-- `write_ack()` (R127) -/
  | writeAck
  /-- `write_nack()` (R128) -/
  | writeNack
  /-- `write_byte(x)` (R150) -/
  | writeByte (x : Byte)
  /-- `read_byte()` (R151) -/
  | readByte
  deriving DecidableEq, Repr

/-- Whether the host can issue the operation (R3, R97): the five commands. -/
def Instr.isCommand : Instr → Bool
  | .write _ _ | .read _ _ | .writeBegin _ | .writeBlock _ | .writeEnd => true
  | .waitHalfPeriod | .writeBit _ | .readBit | .writeStart | .writeStop | .readAck | .writeAck | .writeNack
  | .writeByte _ | .readByte => false

end Sys2Proof
end

