-- ==== Sys2Proof/Machine/State.lean ====
section
/-! DEFINITION. The state of the machine, plain data (spec/10_state.md; INVENTORY.md, heading State): the block's lines,
transaction state, flags and working registers, BUF, and what the host and the environment do next. 1-bit registers are
`Bool`, `true` being 1; on a line 1 is released and 0 is pulled low (spec/00_scope.md rule R10). -/

namespace Sys2Proof.Machine

/-- The transaction state `TXN` (R24): IDLE is 0, WRITE_OPEN is 1. -/
inductive Txn where
  | idle
  | writeOpen
  deriving DecidableEq, Repr

/-- Where the bit of an `sda(v)` action comes from: a constant of the operation, or `SHR[7]` (R150). -/
inductive BitSrc where
  | const (v : Bool)
  | shrTop
  deriving DecidableEq, Repr

/-- Where the byte loaded into `SHR` comes from: the operand of `write_byte` (R150), the control byte with this direction
bit (R94), `BUF[I]` (R61), or `SHR` itself (`write_byte(SHR)`, R162). -/
inductive ByteSrc where
  | imm (x : Byte)
  | ctrl (rw : Bool)
  | bufAtI
  | shr
  deriving DecidableEq, Repr

/-- The action alphabet (spec/00_scope.md rules R11, R12). -/
inductive Act where
  | scl (v : Bool)
  | sda (v : BitSrc)
  | wait
  | sample
  deriving DecidableEq, Repr

/-- The register updates the pseudocode places between actions. -/
inductive Upd where
  /-- `NAK <- 0` (R124) -/
  | nakClear
  /-- `ACKF <- NOT S`, and `NAK <- 1` where `S = 1` (R126) -/
  | ackRecord
  /-- `TXN <- t` (R167) -/
  | setTxn (t : Txn)
  /-- `SHR <- x` (R150, R162) -/
  | shrLoad (src : ByteSrc)
  /-- `SHR <- 0` (R151) -/
  | shrClear
  /-- `SHR <- (SHR << 1)[7:0]` (R150) -/
  | shrShift
  /-- `SHR <- ((SHR << 1) | zext_8(S))[7:0]` (R151) -/
  | shrShiftIn
  /-- `BITC <- 0` (R150, R151) -/
  | bitcZero
  /-- `BITC <- BITC + 1` (R150, R151) -/
  | bitcInc
  /-- `I <- 0` (R162, R165) -/
  | iZero
  /-- `I <- I + 1` (R162, R165) -/
  | iInc
  /-- `MemWrite(I, 1, SHR)` (R165) -/
  | bufStore
  deriving DecidableEq, Repr

/-- One entry of a running operation's pseudocode, loops unrolled: their bounds are fixed at acceptance (R175). -/
inductive Micro where
  | act (a : Act)
  | upd (u : Upd)
  deriving DecidableEq, Repr

/-- What the host or the environment does next (spec/70_reset_and_hazards.md rule R246, spec/00_scope.md rule R14). -/
inductive Move where
  /-- present a command word; the block then runs it one action per step (R95, R31) -/
  | present (w : CmdWord)
  /-- present a command word and wait for its completion, as ONE step of the model: the blocking call of
  92_eei_decisions.md D5 (log 1) -/
  | call (w : CmdWord)
  /-- `HostBufWrite(a, v)` (R62) -/
  | bufWrite (a : Byte) (v : Byte)
  /-- `HostBufRead(a)` (R62) -/
  | bufRead (a : Byte)
  /-- read the status vector (R30) -/
  | readStatus
  /-- the environment changes what it applies to the two lines (R66) -/
  | envMove (scl sda : Bool)
  /-- the host lets `rst` go low (R220); asserting it is no move, since a model takes reset only as the initial state (R222,
  R246; log 11) -/
  | rstLow
  /-- neither host nor environment moves: the block takes its step, if it has one -/
  | pass
  deriving DecidableEq, Repr

/-- The reasons a step stops with a fault: NONE. "the block has no state without a next step other than idle"
(93_implementation_defined.md) and no operation ever stops early (R190), so no constructor exists and nothing raises one. -/
inductive Fault where
  deriving DecidableEq, Repr

/-- The reasons a step is refused. -/
inductive Refusal where
  /-- `exec` has no meaning for the instruction yet; raised by no arm of this model. Safe. -/
  | notModelled (mnemonic : String)
  /-- An order word that names nothing (spec/30_encoding.md rule R99: "`UOP` values 0x0 and 0xB to 0xF name nothing"),
  raised by `fetch`; no run from reset holds one, since no step writes the order port (log 15). Safe. -/
  | unnamedOrder (w : OrdWord)
  deriving DecidableEq, Repr

/-- The machine's state. The docstring of each field names the register of the spec and its rule. -/
structure State where
  /-- `SCL_OUT` (R20) -/
  sclOut : Bool
  /-- `SDA_OUT` (R21) -/
  sdaOut : Bool
  /-- `TXN` (R24) -/
  txn : Txn
  /-- `BUSY` (R25) -/
  busy : Bool
  /-- `ACKF` (R26) -/
  ackf : Bool
  /-- `NAK` (R27) -/
  nak : Bool
  /-- `SEQ_ERR` (R28) -/
  seqErr : Bool
  /-- `ILL_CMD` (R29) -/
  illCmd : Bool
  /-- `K`, the number of actions of the running command already performed (R31) -/
  k : BitVec 14
  /-- `OPR`, the opcode latch (R32) -/
  opr : BitVec 4
  /-- `ADDRR`, the address latch (R32) -/
  addrr : SlaveAddr
  /-- `NR`, the count latch (R32) -/
  nr : Byte
  /-- `I`, the byte index (R33) -/
  i : Byte
  /-- `SHR`, the shift register (R34) -/
  shr : Byte
  /-- `BITC`, the bit counter (R35) -/
  bitc : BitVec 4
  /-- `S`, the sample latch (R36) -/
  smp : Bool
  /-- what is left of the running command: "the list of remaining actions" (R31, D10), with the updates between them;
  DEDUCED from R174 and R175 that the loops may be unrolled (log 9) -/
  todo : List Micro
  /-- `BUF` (R38, R60): the bytes written since power-up, addresses strictly rising -/
  buf : List Host.Cell
  /-- the input `rst` (R39, R220): while it is 1 every clock edge resets the block and nothing is accepted (log 11) -/
  rst : Bool
  /-- the order word between the sequencer and the byte and bit engines (R99, log 2) -/
  order : Option OrdWord
  /-- what the host and the environment do next, soonest first (R14, R246, log 12) -/
  moves : List Move
  /-- `buf_rdata` (R39, "byte read; valid in the cycle of the access"): the byte of the host's last BUF read. What the port
  shows in every other cycle the spec leaves open; the model holds the byte until the next read: DESIGN CHOICE (log 21) -/
  bufRdata : Byte
  /-- what the host's last status read returned (R30) -/
  statusRead : Byte
  /-- `env_scl` (R66) -/
  envScl : Bool
  /-- `env_sda` (R66) -/
  envSda : Bool
  /-- what the environment applies to the data line at the coming samples, soonest first (R67, log 3) -/
  answers : List Bool
  /-- MODEL's own: samples taken so far, the argument of the free value `Config.envSda` (log 3) -/
  samples : Nat
  /-- MODEL's own: half periods waited so far; at least `waits * T_HALF` has passed (R121, log 8) -/
  waits : Nat
  /-- the parameter `FINAL_NACK` (R8, R169, log 7) -/
  finalNack : Bool
  deriving DecidableEq, Repr

/-- The machine right after reset (R40, R221). The lines, `TXN`, `BUSY`, the flags and `K` have the values of R40's table;
the working registers, unspecified there, and the fields that are not the block's are DESIGN CHOICES (logs 5 and 6);
`rst` is 0, reset being over (R220, log 11); `finalNack` has the spec's default (log 7); BUF lists nothing (log 4). -/
def State.reset : State where
  sclOut := true
  sdaOut := true
  txn := .idle
  busy := false
  ackf := false
  nak := false
  seqErr := false
  illCmd := false
  k := 0
  opr := 0
  addrr := 0
  nr := 0
  i := 0
  shr := 0
  bitc := 0
  smp := false
  todo := []
  buf := []
  rst := false
  order := none
  moves := []
  bufRdata := 0
  statusRead := 0
  envScl := true
  envSda := true
  answers := []
  samples := 0
  waits := 0
  finalNack := Config.finalNackDefault

end Sys2Proof.Machine
end

