-- ==== Sys2Proof/Machine/Ops.lean ====
section
/-! DEFINITION. The named operations over BUF, the lines, the timer and the host's ports, and the register table of
reset. -/

namespace Sys2Proof.Machine

/-! BUF (spec/20_memory.md rules R60 to R63) -/

/-- The canonical form of BUF's list: addresses strictly rising, each one of BUF's 256 (R60). An entry stands exactly for
a byte that has been written; an unlisted byte has no entry's value, so no entry can equal what an unlisted one reads as
(log 4). -/
def Memory.wf : List Host.Cell → Bool
  | [] => true
  | [c] => decide (c.1 < 256)
  | c :: d :: r => decide (c.1 < d.1) && Memory.wf (d :: r)

/-- The byte listed at an index, if one has been written. -/
def cellLookup : List Host.Cell → Nat → Option Byte
  | [], _ => none
  | c :: r, a => if c.1 = a then some c.2 else cellLookup r a

/-- Lists `v` at index `a`, in place or in order. -/
def cellStore : List Host.Cell → Nat → Byte → List Host.Cell
  | [], a, v => [(a, v)]
  | c :: r, a, v =>
    if a < c.1 then (a, v) :: c :: r
    else if c.1 = a then (a, v) :: r
    else c :: cellStore r a v

/-- What index `a` reads as in a list of written bytes. A byte nothing has written since power-up is the free value of
93 U8 (log 4). -/
def byteIn (l : List Host.Cell) (a : Byte) : Byte := (cellLookup l a.toNat).getD (Config.bufPowerUp a)

/-- `MemRead(a, 1)` (R61, R63): no side effect. -/
def bufByte (s : State) (a : Byte) : Byte := byteIn s.buf a

/-- `MemWrite(a, 1, v)` (R61, R63): no effect beyond the byte written. -/
def bufSet (a v : Byte) (s : State) : State := { s with buf := cellStore s.buf a.toNat v }

/-! The lines and the half-period timer (spec/20_memory.md rules R65 to R68, spec/40_signal_primitives.md rule R121) -/

/-- `SCL_LINE = SCL_OUT & env_scl` (R66); no operation of the block reads it (R22). -/
def sclLine (s : State) : Bool := s.sclOut && s.envScl

/-- `SDA_LINE = SDA_OUT & env_sda` (R66), the port `sda_in` (R22). -/
def sdaLine (s : State) : Bool := s.sdaOut && s.envSda

/-- The action `scl(v)` (R20, R65). -/
def driveScl (v : Bool) (s : State) : State := { s with sclOut := v }

/-- The action `sda(v)` (R21, R65). -/
def driveSda (v : Bool) (s : State) : State := { s with sdaOut := v }

/-- The action `wait()` (R121): no register changes; `waits` counts it. -/
def halfPeriod (s : State) : State := { s with waits := s.waits + 1 }

/-- The environment's contribution to the data line at the `j`-th sample from here, `taken` samples having been taken: the
answer held, or the free value of 93 U7 (log 3). -/
def answerFrom (held : List Bool) (taken j : Nat) : Bool := (held[j]?).getD (Config.envSda (taken + j))

/-- The environment's contribution to the data line at the `j`-th sample from this state (R67). -/
def answerAt (s : State) (j : Nat) : Bool := answerFrom s.answers s.samples j

/-- The action `sample()` (R67): the environment may have moved; `S <- SDA_OUT & env_sda`. -/
def sampleSda (s : State) : State :=
  { s with
    smp := s.sdaOut && answerAt s 0
    envSda := answerAt s 0
    answers := s.answers.tail
    samples := s.samples + 1 }

/-- The environment changes what it applies to the lines (R66), at any time (R14). -/
def envChange (scl sda : Bool) (s : State) : State := { s with envScl := scl, envSda := sda }

/-- The least time that has passed in half-period waits (R121, R240), in the unit of `T_HALF`. -/
def leastElapsed (s : State) : Nat := s.waits * Config.tHalf

/-! The host's ports (spec/10_state.md rule R39) -/

/-- Whether the block accepts a request: `NOT BUSY` (R25, R39), and not while `rst = 1` (R220, R246). -/
def portsReady (s : State) : Bool := !s.busy && !s.rst

/-- `cmd_ready` (R25, R39, R220). -/
def cmdReady (s : State) : Bool := portsReady s

/-- `buf_ready` (R25, R39, R220). -/
def bufReady (s : State) : Bool := portsReady s

/-- `HostBufWrite(a, v)` (R62). -/
def hostBufWrite (a v : Byte) (s : State) : State := bufSet a v s

/-- `HostBufRead(a)` (R62): the byte comes out on `buf_rdata`, where the model holds it after the access too, a point the
spec leaves open: DESIGN CHOICE (log 21). -/
def hostBufRead (a : Byte) (s : State) : State := { s with bufRdata := bufByte s a }

/-! Reset (spec/70_reset_and_hazards.md rules R220, R221; spec/10_state.md rule R40) -/

/-- What a clock edge with `rst = 1` does to the registers, "whatever the block was doing" (R220): the table of R40; BUF,
the parameter and what is not the block's stay, `rst` itself among it. The working registers, unspecified there, take
`State.reset`'s values (log 5); `buf_rdata`, in no row of that table, keeps the last byte read (log 21). -/
def assertRst (s : State) : State :=
  { State.reset with
    buf := s.buf
    rst := s.rst
    moves := s.moves
    bufRdata := s.bufRdata
    statusRead := s.statusRead
    envScl := s.envScl
    envSda := s.envSda
    answers := s.answers
    samples := s.samples
    waits := s.waits
    finalNack := s.finalNack }

/-- The host holds `rst` at 1. R246 enables that in the initial state only, so no move does it (R222; log 11). -/
def holdRst (s : State) : State := { s with rst := true }

/-- `rst` goes low: the last clock edge with `rst = 1`, and from then on `rst = 0` (R220; that at least one edge falls while
it is held is the model's choice, log 11). With `rst = 0` already there is nothing to do. -/
def releaseRst (s : State) : State := if s.rst then { assertRst s with rst := false } else s

end Sys2Proof.Machine
end

