-- ==== Sys2Proof/Machine/Flags.lean ====
section
/-! DEFINITION. The flags and the status vector (spec/10_state.md rules R24 to R30, spec/60_exceptions.md). The block has
no exception: `raise` sets a bit and goes on (R191), so these operations are the whole of "taking an exception", and there
is no return from one (R199). -/

namespace Sys2Proof.Machine

/-- `raise SEQ_ERR` (R191, R192): sticky, control goes on. -/
def raiseSeqErr (s : State) : State := { s with seqErr := true }

/-- `raise ILL_CMD` (R191, R193): sticky, control goes on. -/
def raiseIllCmd (s : State) : State := { s with illCmd := true }

/-- `if TXN != pre: raise SEQ_ERR` (R95, R166). -/
def checkOrder (pre : Txn) (s : State) : State := if s.txn = pre then s else raiseSeqErr s

/-- `NAK <- 0` (R27, R124). -/
def clearNak (s : State) : State := { s with nak := false }

/-- `ACKF <- NOT b; if b = 1: NAK <- 1` with `b` the sample latch (R26, R27, R126). -/
def recordAck (s : State) : State := { s with ackf := !s.smp, nak := s.nak || s.smp }

/-- `TXN` as the bit of the status vector (R24). -/
def txnBit (t : Txn) : Bool :=
  match t with
  | .idle => false
  | .writeOpen => true

/-- `status[7:0]` (R30): bits 7:6 are hardwired to 0, then `ILL_CMD`, `SEQ_ERR`, `NAK`, `ACKF`, `TXN`, `BUSY`. -/
def status (s : State) : Byte :=
  0#2 ++ BitVec.ofBool s.illCmd ++ BitVec.ofBool s.seqErr ++ BitVec.ofBool s.nak ++ BitVec.ofBool s.ackf ++
    BitVec.ofBool (txnBit s.txn) ++ BitVec.ofBool s.busy

/-- The host reads the status vector (R30): no side effect on the block. -/
def hostReadStatus (s : State) : State := { s with statusRead := status s }

/-- The block's output ports (R39). -/
structure Outputs where
  cmdReady : Bool
  bufReady : Bool
  bufRdata : Byte
  status : Byte
  sclOut : Bool
  sdaOut : Bool
  deriving DecidableEq, Repr

/-- What the ports of R39 show. `bufRdata` is the byte of the last BUF read in every state, where R39 says only "valid in the
cycle of the access": DESIGN CHOICE (log 21). -/
def outputs (s : State) : Outputs := ⟨cmdReady s, bufReady s, s.bufRdata, status s, s.sclOut, s.sdaOut⟩

end Sys2Proof.Machine
end

