-- ==== Sys2Proof/Machine/Operands.lean ====
section
/-! DEFINITION. Operand assembly (spec/30_encoding.md rule R94) and the operand sources of the byte serializer. -/

namespace Sys2Proof.Machine

/-- The control byte `{ADDRR[6:0], RW}` (R94): `RW` is 0 for `write_begin` and `write`, 1 for `read`. -/
def ctrlByte (a : SlaveAddr) (rw : Bool) : Byte := a ++ BitVec.ofBool rw

/-- The bit an `sda(v)` action puts on the line. -/
def bitOf (src : BitSrc) (s : State) : Bool :=
  match src with
  | .const v => v
  | .shrTop => s.shr.getLsbD 7

/-- The byte a load of `SHR` takes. -/
def byteOf (src : ByteSrc) (s : State) : Byte :=
  match src with
  | .imm x => x
  | .ctrl rw => ctrlByte s.addrr rw
  | .bufAtI => bufByte s s.i
  | .shr => s.shr

/-- `SHR <- x`. -/
def loadShr (src : ByteSrc) (s : State) : State := { s with shr := byteOf src s }

/-- `SHR <- (SHR << 1)[7:0]` (R150): bit 7 is dropped, bit 0 becomes 0. -/
def shiftShr (s : State) : State := { s with shr := s.shr <<< 1 }

/-- `SHR <- ((SHR << 1) | zext_8(S))[7:0]` (R151). -/
def shiftInShr (s : State) : State := { s with shr := (s.shr <<< 1) ||| (BitVec.ofBool s.smp).setWidth 8 }

/-- `BITC <- BITC + 1` (R150, R151). -/
def incBitc (s : State) : State := { s with bitc := s.bitc + 1 }

/-- `I <- I + 1` (R174). -/
def incI (s : State) : State := { s with i := s.i + 1 }

/-- `MemWrite(I, 1, SHR)` (R61, R165). -/
def storeShr (s : State) : State := bufSet s.i s.shr s

end Sys2Proof.Machine
end

