-- ==== Sys2Proof/Machine/Sequencer.lean ====
section
/-! DEFINITION. The sequencer (spec/10_state.md rule R31): the entries of a running operation's pseudocode, acceptance
(spec/30_encoding.md rule R95), one step of the block, and the operation run to its end. -/

namespace Sys2Proof.Machine

/-- One action on the lines (spec/00_scope.md rule R11). -/
def performAct (a : Act) (s : State) : State :=
  match a with
  | .scl v => driveScl v s
  | .sda v => driveSda (bitOf v s) s
  | .wait => halfPeriod s
  | .sample => sampleSda s

/-- One action and the sequencer's advance, `K <- K + 1` (R31). -/
def stepAct (a : Act) (s : State) : State := { performAct a s with k := s.k + 1 }

/-- One register update. -/
def applyUpd (u : Upd) (s : State) : State :=
  match u with
  | .nakClear => clearNak s
  | .ackRecord => recordAck s
  | .setTxn t => { s with txn := t }
  | .shrLoad src => loadShr src s
  | .shrClear => { s with shr := 0 }
  | .shrShift => shiftShr s
  | .shrShiftIn => shiftInShr s
  | .bitcZero => { s with bitc := 0 }
  | .bitcInc => incBitc s
  | .iZero => { s with i := 0 }
  | .iInc => incI s
  | .bufStore => storeShr s

/-- One entry of the pseudocode. -/
def perform (m : Micro) (s : State) : State :=
  match m with
  | .act a => stepAct a s
  | .upd u => applyUpd u s

/-- Runs entries in order to their end, in place, as a subroutine (R11, `op(args)`). -/
def runScript (ms : List Micro) (s : State) : State := ms.foldl (fun t m => perform m t) s

/-- What the acceptance step loads for a command (R95, R166): `OPR`, `ADDRR`, `NR` (a field the command does not use is 0,
R32) and the value of `TXN` it requires. -/
structure Header where
  op : BitVec 4
  addr : SlaveAddr
  n : Byte
  pre : Txn
  deriving DecidableEq, Repr

/-- The acceptance step (R95). -/
def accept (h : Header) (s : State) : State :=
  { checkOrder h.pre { s with opr := h.op, addrr := h.addr, nr := h.n } with k := 0, busy := true }

/-- Makes the updates that stand before the next action, and leaves the rest to do; with no action left the command is
complete, `BUSY <- 0` (R31, R98). -/
def settle : List Micro → State → State
  | [], s => { s with todo := [], busy := false }
  | .upd u :: r, s => settle r (applyUpd u s)
  | .act a :: r, s => { s with todo := .act a :: r }

/-- One step of the block (R12, R31): the next action and the updates placed between it and the one after. With `BUSY = 0`
the block takes none (R25). -/
def blockStep (s : State) : State :=
  if s.busy then
    match s.todo with
    | .act a :: r => settle r (stepAct a s)
    | r => settle r s
  else s

/-- An accepted command run to its end: every action in order, then `BUSY <- 0` (R31, R98). -/
def complete (ms : List Micro) (s : State) : State := { runScript ms s with todo := [], busy := false }

end Sys2Proof.Machine
end

