-- ==== Sys2Proof/Machine/SignalPrimitives.lean ====
section
/-! DEFINITION. The signal primitives (spec/40_signal_primitives.md): the pseudocode of each as a script, and its
meaning. None of them ends in a fault or a refusal (R120). -/

namespace Sys2Proof.Machine

/-- The pseudocode of R121. -/
def waitHalfPeriodScript : List Micro := [.act .wait]

/-- The pseudocode of R122. -/
def writeBitScript (x : BitSrc) : List Micro :=
  [.act (.scl false), .act .wait, .act (.sda x), .act (.scl true), .act .wait]

/-- The pseudocode of R123. -/
def readBitScript : List Micro :=
  [.act (.scl false), .act (.sda (.const true)), .act .wait, .act (.scl true), .act .wait, .act .sample, .act .wait]

/-- The pseudocode of R124; `NAK <- 0` comes with the first action (R45). -/
def writeStartScript : List Micro :=
  [.act (.sda (.const false)), .upd .nakClear, .act (.scl false)]

/-- The pseudocode of R125. -/
def writeStopScript : List Micro :=
  [.act (.scl false), .act (.sda (.const false)), .act (.scl true), .act (.sda (.const true))]

/-- The pseudocode of R126; the flags are written with the last action of `read_bit`. -/
def readAckScript : List Micro := readBitScript ++ [.upd .ackRecord]

/-- The pseudocode of R127. -/
def writeAckScript : List Micro := writeBitScript (.const false)

/-- The pseudocode of R128. -/
def writeNackScript : List Micro := writeBitScript (.const true)

/-- `wait_half_period()` (R121). -/
def execWaitHalfPeriod (s : State) : Host.Outcome State Fault Refusal := .next (runScript waitHalfPeriodScript s)

/-- `write_bit(x)` (R122). -/
def execWriteBit (x : Bool) (s : State) : Host.Outcome State Fault Refusal :=
  .next (runScript (writeBitScript (.const x)) s)

/-- `read_bit()` (R123): the result is left in `S`. -/
def execReadBit (s : State) : Host.Outcome State Fault Refusal := .next (runScript readBitScript s)

/-- `write_start()` (R124). -/
def execWriteStart (s : State) : Host.Outcome State Fault Refusal := .next (runScript writeStartScript s)

/-- `write_stop()` (R125). -/
def execWriteStop (s : State) : Host.Outcome State Fault Refusal := .next (runScript writeStopScript s)

/-- `read_ack()` (R126): the result goes to `ACKF` and `NAK` and to nothing else. -/
def execReadAck (s : State) : Host.Outcome State Fault Refusal := .next (runScript readAckScript s)

/-- `write_ack()` (R127). -/
def execWriteAck (s : State) : Host.Outcome State Fault Refusal := .next (runScript writeAckScript s)

/-- `write_nack()` (R128). -/
def execWriteNack (s : State) : Host.Outcome State Fault Refusal := .next (runScript writeNackScript s)

end Sys2Proof.Machine
end

