-- ==== Sys2Proof/Machine/ByteSerializer.lean ====
section
/-! DEFINITION. The byte serializer, most significant bit first (spec/41_byte_serializer.md). -/

namespace Sys2Proof.Machine

/-- `k` copies of a loop body, one after another. -/
def repeatScript : Nat → List Micro → List Micro
  | 0, _ => []
  | k + 1, body => body ++ repeatScript k body

/-- The loop body of R150. -/
def writeByteBody : List Micro := writeBitScript .shrTop ++ [.upd .shrShift, .upd .bitcInc]

/-- The pseudocode of R150, the operand taken from `src`. -/
def writeByteScript (src : ByteSrc) : List Micro :=
  [.upd (.shrLoad src), .upd .bitcZero] ++ repeatScript 8 writeByteBody

/-- The loop body of R151. -/
def readByteBody : List Micro := readBitScript ++ [.upd .shrShiftIn, .upd .bitcInc]

/-- The pseudocode of R151. -/
def readByteScript : List Micro := [.upd .shrClear, .upd .bitcZero] ++ repeatScript 8 readByteBody

/-- `write_byte(x)` (R150). -/
def execWriteByte (x : Byte) (s : State) : Host.Outcome State Fault Refusal :=
  .next (runScript (writeByteScript (.imm x)) s)

/-- `read_byte()` (R151): the result is left in `SHR`. -/
def execReadByte (s : State) : Host.Outcome State Fault Refusal := .next (runScript readByteScript s)

end Sys2Proof.Machine
end

