-- ==== Sys2Proof/Machine/Transactions.lean ====
section
/-! DEFINITION. The five commands (spec/42_transactions.md): what acceptance loads, the pseudocode of each as a script, and
its meaning. A meaning is the acceptance step of R95 and then every action of the command; `fetch` has checked that
`BUSY = 0` (log 1, log 19). -/

namespace Sys2Proof.Machine

/-- The body of R161. -/
def writeBeginScript : List Micro := writeStartScript ++ writeByteScript (.ctrl false) ++ [.upd (.setTxn .writeOpen)]

/-- One pass of R162's loop. -/
def writeBlockBody : List Micro :=
  readAckScript ++ [.upd (.shrLoad .bufAtI)] ++ writeByteScript .shr ++ [.upd .iInc]

/-- The body of R162; its loop runs `NR` times (R174). -/
def writeBlockScript (n : Byte) : List Micro := [.upd .iZero] ++ repeatScript n.toNat writeBlockBody

/-- The body of R163. -/
def writeEndScript : List Micro := readAckScript ++ writeStopScript ++ [.upd (.setTxn .idle)]

/-- The body of R164: the bodies of R161, R162 and R163 one after another. -/
def writeScript (n : Byte) : List Micro := writeBeginScript ++ writeBlockScript n ++ writeEndScript

/-- The end of one pass of R165's loop: `read_byte`, the store, `I <- I + 1`. -/
def readByteStore : List Micro := readByteScript ++ [.upd .bufStore, .upd .iInc]

/-- The passes of R165's loop: all but the first begin with `write_ack`. -/
def readLoopScript : Nat → List Micro
  | 0 => []
  | k + 1 => readByteStore ++ repeatScript k (writeAckScript ++ readByteStore)

/-- `if FINAL_NACK and NR != 0: write_nack()` (R165, R169). -/
def finalNackScript (fn : Bool) (n : Byte) : List Micro := if fn && n != 0#8 then writeNackScript else []

/-- The body of R165. -/
def readScript (fn : Bool) (n : Byte) : List Micro :=
  writeStartScript ++ writeByteScript (.ctrl true) ++ readAckScript ++ [.upd .iZero] ++ readLoopScript n.toNat ++
    finalNackScript fn n ++ writeStopScript ++ [.upd (.setTxn .idle)]

/-- What acceptance loads for `WRITE` (R91, R166). -/
def writeHeader (a : SlaveAddr) (n : Byte) : Header := ⟨0x1#4, a, n, .idle⟩

/-- What acceptance loads for `READ` (R91, R166). -/
def readHeader (a : SlaveAddr) (n : Byte) : Header := ⟨0x2#4, a, n, .idle⟩

/-- What acceptance loads for `WRITE_BEGIN` (R91, R166). -/
def writeBeginHeader (a : SlaveAddr) : Header := ⟨0x3#4, a, 0#8, .idle⟩

/-- What acceptance loads for `WRITE_BLOCK` (R91, R166). -/
def writeBlockHeader (n : Byte) : Header := ⟨0x4#4, 0#7, n, .writeOpen⟩

/-- What acceptance loads for `WRITE_END` (R91, R166). -/
def writeEndHeader : Header := ⟨0x5#4, 0#7, 0#8, .writeOpen⟩

/-- `WRITE addr, n` (R164). -/
def execWrite (a : SlaveAddr) (n : Byte) (s : State) : Host.Outcome State Fault Refusal :=
  .next (complete (writeScript n) (accept (writeHeader a n) s))

/-- `READ addr, n` (R165). -/
def execRead (a : SlaveAddr) (n : Byte) (s : State) : Host.Outcome State Fault Refusal :=
  .next (complete (readScript s.finalNack n) (accept (readHeader a n) s))

/-- `WRITE_BEGIN addr` (R161). -/
def execWriteBegin (a : SlaveAddr) (s : State) : Host.Outcome State Fault Refusal :=
  .next (complete writeBeginScript (accept (writeBeginHeader a) s))

/-- `WRITE_BLOCK n` (R162). -/
def execWriteBlock (n : Byte) (s : State) : Host.Outcome State Fault Refusal :=
  .next (complete (writeBlockScript n) (accept (writeBlockHeader n) s))

/-- `WRITE_END` (R163). -/
def execWriteEnd (s : State) : Host.Outcome State Fault Refusal :=
  .next (complete writeEndScript (accept writeEndHeader s))

/-- What acceptance loads; none for an internal operation, which is never accepted from the command port (R97). -/
def headerOf : Instr → Option Header
  | .write a n => some (writeHeader a n)
  | .read a n => some (readHeader a n)
  | .writeBegin a => some (writeBeginHeader a)
  | .writeBlock n => some (writeBlockHeader n)
  | .writeEnd => some writeEndHeader
  | .waitHalfPeriod | .writeBit _ | .readBit | .writeStart | .writeStop | .readAck | .writeAck | .writeNack
  | .writeByte _ | .readByte => none

/-- The pseudocode of each operation, for the value `fn` of `FINAL_NACK`. -/
def scriptOf (fn : Bool) : Instr → List Micro
  | .write _ n => writeScript n
  | .read _ n => readScript fn n
  | .writeBegin _ => writeBeginScript
  | .writeBlock n => writeBlockScript n
  | .writeEnd => writeEndScript
  | .waitHalfPeriod => waitHalfPeriodScript
  | .writeBit x => writeBitScript (.const x)
  | .readBit => readBitScript
  | .writeStart => writeStartScript
  | .writeStop => writeStopScript
  | .readAck => readAckScript
  | .writeAck => writeAckScript
  | .writeNack => writeNackScript
  | .writeByte x => writeByteScript (.imm x)
  | .readByte => readByteScript

/-- The state in which the operation's pseudocode begins: after acceptance for a command, as it stands for an internal
operation, which is run in place (R11). -/
def enter (i : Instr) (s : State) : State :=
  match headerOf i with
  | some h => accept h s
  | none => s

/-- Acceptance of a presented command that the block then runs one action per step (R95). A command with no action
completes here (R98, R168). -/
def beginCommand (i : Instr) (s : State) : State := settle (scriptOf s.finalNack i) (enter i s)

end Sys2Proof.Machine
end

