-- ==== Sys2Proof/Machine/Dispatch.lean ====
section
/-! DEFINITION. The meaning of each instruction, one arm per constructor. -/

namespace Sys2Proof.Machine

def exec (i : Instr) (s : State) : Host.Outcome State Fault Refusal :=
  match i with
  | .write a n => Sys2Proof.Machine.execWrite a n s
  | .read a n => Sys2Proof.Machine.execRead a n s
  | .writeBegin a => Sys2Proof.Machine.execWriteBegin a s
  | .writeBlock n => Sys2Proof.Machine.execWriteBlock n s
  | .writeEnd => Sys2Proof.Machine.execWriteEnd s
  | .waitHalfPeriod => Sys2Proof.Machine.execWaitHalfPeriod s
  | .writeBit x => Sys2Proof.Machine.execWriteBit x s
  | .readBit => Sys2Proof.Machine.execReadBit s
  | .writeStart => Sys2Proof.Machine.execWriteStart s
  | .writeStop => Sys2Proof.Machine.execWriteStop s
  | .readAck => Sys2Proof.Machine.execReadAck s
  | .writeAck => Sys2Proof.Machine.execWriteAck s
  | .writeNack => Sys2Proof.Machine.execWriteNack s
  | .writeByte x => Sys2Proof.Machine.execWriteByte x s
  | .readByte => Sys2Proof.Machine.execReadByte s

end Sys2Proof.Machine
end

