-- ==== Sys2Proof/WellFormed.lean ====
section
/-! DEFINITION. Well-formedness of instructions and of operands against the encoding tables of spec/30_encoding.md (rules
R92, R93, R99): the operand bits of an instruction lie in the free bits of its row. -/

namespace Sys2Proof

/-- A row of the encoding tables (R93, R99; spec/opcode_table.json): the word's width, the fixed bits' value ("match") and
which bits are fixed ("mask"). -/
structure Row where
  width : Nat
  value : Nat
  mask : Nat
  deriving DecidableEq, Repr

/-- The row of each operation (R93 for the commands, R99 for the internal operations). -/
def Instr.row : Instr → Row
  | .write _ _ => ⟨20, 0x10000, 0xF8000⟩
  | .read _ _ => ⟨20, 0x20000, 0xF8000⟩
  | .writeBegin _ => ⟨20, 0x30000, 0xF80FF⟩
  | .writeBlock _ => ⟨20, 0x40000, 0xFFF00⟩
  | .writeEnd => ⟨20, 0x50000, 0xFFFFF⟩
  | .waitHalfPeriod => ⟨12, 0x100, 0xFFF⟩
  | .writeBit _ => ⟨12, 0x200, 0xFFE⟩
  | .readBit => ⟨12, 0x300, 0xFFF⟩
  | .writeStart => ⟨12, 0x400, 0xFFF⟩
  | .writeStop => ⟨12, 0x500, 0xFFF⟩
  | .readAck => ⟨12, 0x600, 0xFFF⟩
  | .writeAck => ⟨12, 0x700, 0xFFF⟩
  | .writeNack => ⟨12, 0x800, 0xFFF⟩
  | .writeByte _ => ⟨12, 0x900, 0xF00⟩
  | .readByte => ⟨12, 0xA00, 0xFFF⟩

/-- The operand bits of each operation where its row puts them: `ADDR` in bits 14:8 and `N` in bits 7:0 of a command
(R90), `ARG` in bits 7:0 of an order (R99). -/
def Instr.operandBits : Instr → Nat
  | .write a n | .read a n => a.toNat * 256 + n.toNat
  | .writeBegin a => a.toNat * 256
  | .writeBlock n => n.toNat
  | .writeBit x => x.toNat
  | .writeByte x => x.toNat
  | .writeEnd | .waitHalfPeriod | .readBit | .writeStart | .writeStop | .readAck | .writeAck | .writeNack
  | .readByte => 0

/-- The operand bits fit the word. -/
def Row.fits (r : Row) (ops : Nat) : Bool := decide (ops < 2 ^ r.width)

/-- The operand bits leave the row's fixed bits alone: unused fields and `Z` stay 0 (R93). -/
def Row.leavesFixed (r : Row) (ops : Nat) : Bool := decide (ops &&& r.mask = 0)

/-- Operand bits a row admits. -/
def Row.admits (r : Row) (ops : Nat) : Bool := r.fits ops && r.leavesFixed ops

/-- An instruction whose operands its row admits. -/
abbrev Instr.WellFormed (i : Instr) : Prop := i.row.admits i.operandBits = true

/-- A word that matches the row: `w & mask = match` (R93). -/
def Row.accepts (r : Row) (w : Nat) : Bool := decide (w < 2 ^ r.width) && decide (w &&& r.mask = r.value)

/-- The five rows of R93. -/
def commandRows : List Row :=
  [⟨20, 0x10000, 0xF8000⟩, ⟨20, 0x20000, 0xF8000⟩, ⟨20, 0x30000, 0xF80FF⟩, ⟨20, 0x40000, 0xFFF00⟩,
    ⟨20, 0x50000, 0xFFFFF⟩]

end Sys2Proof
end

