-- ==== Sys2Proof/Decode.lean ====
section
/-! DEFINITION. Decoding of command words and order words (spec/30_encoding.md rules R90 to R99), total on every word and
rejecting by name, and the encoder written from the same tables. -/

namespace Sys2Proof

/-- Why a word is no instruction (R97 for commands, R99 for orders). -/
inductive Reject where
  /-- `OP` is 0x0 or 0x6 to 0xF (R97). -/
  | reservedOp (op : BitVec 4)
  /-- bit 15, `Z`, is 1 (R97). -/
  | zSet
  /-- the command does not use `N` and `N` is not 0 (R97). -/
  | unusedN
  /-- the command does not use `ADDR` and `ADDR` is not 0 (R97). -/
  | unusedAddr
  /-- `UOP` is 0x0 or 0xB to 0xF: it names nothing (R99). -/
  | unnamedUop (uop : BitVec 4)
  /-- `ARG` has a bit the order does not use (R99). -/
  | unusedArg
  deriving DecidableEq, Repr

/-- A word on one of the block's two instruction ports: the host's `cmd_word` (R90), or the order word between the
sequencer and the byte and bit engines (R99). -/
inductive PortWord where
  | command (w : CmdWord)
  | order (w : OrdWord)
  deriving DecidableEq, Repr

/-- Bits 19:16 of a command word (R90). -/
def fieldOp (w : CmdWord) : BitVec 4 := w.extractLsb' 16 4

/-- Bit 15 of a command word (R90). -/
def fieldZ (w : CmdWord) : Bool := w.getLsbD 15

/-- Bits 14:8 of a command word (R90). -/
def fieldAddr (w : CmdWord) : SlaveAddr := w.extractLsb' 8 7

/-- Bits 7:0 of a command word (R90). -/
def fieldN (w : CmdWord) : Byte := w.extractLsb' 0 8

/-- Bits 11:8 of an order word (R99). -/
def fieldUop (w : OrdWord) : BitVec 4 := w.extractLsb' 8 4

/-- Bits 7:0 of an order word (R99). -/
def fieldArg (w : OrdWord) : Byte := w.extractLsb' 0 8

/-- The command a legal word stands for: the opcode map R91 with the zero fields of R93. -/
def decodeCommand (w : CmdWord) : Except Reject Instr :=
  if fieldZ w then .error .zSet
  else if fieldOp w = 0x1#4 then .ok (.write (fieldAddr w) (fieldN w))
  else if fieldOp w = 0x2#4 then .ok (.read (fieldAddr w) (fieldN w))
  else if fieldOp w = 0x3#4 then
    if fieldN w = 0#8 then .ok (.writeBegin (fieldAddr w)) else .error .unusedN
  else if fieldOp w = 0x4#4 then
    if fieldAddr w = 0#7 then .ok (.writeBlock (fieldN w)) else .error .unusedAddr
  else if fieldOp w = 0x5#4 then
    if fieldAddr w = 0#7 then
      if fieldN w = 0#8 then .ok .writeEnd else .error .unusedN
    else .error .unusedAddr
  else .error (.reservedOp (fieldOp w))

/-- An order that takes no argument. -/
def noArg (w : OrdWord) (i : Instr) : Except Reject Instr :=
  if fieldArg w = 0#8 then .ok i else .error .unusedArg

/-- The internal operation an order word names: the table of R99. -/
def decodeOrder (w : OrdWord) : Except Reject Instr :=
  if fieldUop w = 0x1#4 then noArg w .waitHalfPeriod
  else if fieldUop w = 0x2#4 then
    if (fieldArg w).extractLsb' 1 7 = 0#7 then .ok (.writeBit ((fieldArg w).getLsbD 0)) else .error .unusedArg
  else if fieldUop w = 0x3#4 then noArg w .readBit
  else if fieldUop w = 0x4#4 then noArg w .writeStart
  else if fieldUop w = 0x5#4 then noArg w .writeStop
  else if fieldUop w = 0x6#4 then noArg w .readAck
  else if fieldUop w = 0x7#4 then noArg w .writeAck
  else if fieldUop w = 0x8#4 then noArg w .writeNack
  else if fieldUop w = 0x9#4 then .ok (.writeByte (fieldArg w))
  else if fieldUop w = 0xA#4 then noArg w .readByte
  else .error (.unnamedUop (fieldUop w))

/-- The instruction on a port. -/
def decode : PortWord → Except Reject Instr
  | .command w => decodeCommand w
  | .order w => decodeOrder w

/-- A command word from its fields, `Z = 0` (R90). -/
def commandWord (op : BitVec 4) (a : SlaveAddr) (n : Byte) : CmdWord := op ++ 0#1 ++ a ++ n

/-- An order word from its fields (R99). -/
def orderWord (uop : BitVec 4) (arg : Byte) : OrdWord := uop ++ arg

/-- The word of an instruction, from R91 and R99. -/
def encode : Instr → PortWord
  | .write a n => .command (commandWord 0x1#4 a n)
  | .read a n => .command (commandWord 0x2#4 a n)
  | .writeBegin a => .command (commandWord 0x3#4 a 0#8)
  | .writeBlock n => .command (commandWord 0x4#4 0#7 n)
  | .writeEnd => .command (commandWord 0x5#4 0#7 0#8)
  | .waitHalfPeriod => .order (orderWord 0x1#4 0#8)
  | .writeBit x => .order (orderWord 0x2#4 (0#7 ++ BitVec.ofBool x))
  | .readBit => .order (orderWord 0x3#4 0#8)
  | .writeStart => .order (orderWord 0x4#4 0#8)
  | .writeStop => .order (orderWord 0x5#4 0#8)
  | .readAck => .order (orderWord 0x6#4 0#8)
  | .writeAck => .order (orderWord 0x7#4 0#8)
  | .writeNack => .order (orderWord 0x8#4 0#8)
  | .writeByte x => .order (orderWord 0x9#4 x)
  | .readByte => .order (orderWord 0xA#4 0#8)

/-- A port word's value as a number. -/
def portWordNat : PortWord → Nat
  | .command w => w.toNat
  | .order w => w.toNat

/-- The port word a number of `nbits` bits is laid on: up to 16 bits an order word, above that a command word; none where
the number does not fit the port (log 16). -/
def tablePortWord (nbits w : Nat) : Option PortWord :=
  if nbits ≤ 16 then
    if w < 2 ^ 12 then some (.order (BitVec.ofNat 12 w)) else none
  else
    if w < 2 ^ 20 then some (.command (BitVec.ofNat 20 w)) else none

/-- The instruction decoded from a word as spec/opcode_table.json numbers its bits. -/
def decodeTableWord (nbits w : Nat) : Option Instr :=
  match tablePortWord nbits w with
  | none => none
  | some p =>
    match decode p with
    | .ok i => some i
    | .error _ => none

end Sys2Proof
end

