-- ==== Sys2Proof/Machine/Fetch.lean ====
section
/-! DEFINITION. Which agent takes the next step, and what it does (spec/00_scope.md rule R14, spec/70_reset_and_hazards.md
rule R246); where the next instruction comes from. There is no fetch from memory (spec/20_memory.md rule R73): a command is
the word on `cmd_word`. -/

namespace Sys2Proof.Machine

/-- What the next step is. -/
inductive Fetched where
  /-- an instruction to execute, in this state -/
  | run (i : Instr) (s : State)
  /-- a step that executes no instruction, and the state after it -/
  | done (s : State)
  /-- a refusal -/
  | stop (r : Refusal)
  deriving DecidableEq, Repr

/-- Whether a move waits at its port while `BUSY = 1` or `rst = 1` (R246): the command and buffer requests do; reading the
status is always enabled, and the environment moves at any time. -/
def moveWaits : Move → Bool
  | .present _ | .call _ | .bufWrite _ _ | .bufRead _ => true
  | .readStatus | .envMove _ _ | .rstLow | .pass => false

/-- The step in which neither host nor environment moves: the block's (R14, R31), or, while `rst = 1`, the clock edge that
resets it, "whatever the block was doing" (R220). -/
def clockStep (s : State) : State := if s.rst then assertRst s else blockStep s

/-- A presented command word that the block then runs step by step (R95), or drops as illegal (R96). -/
def presentWord (w : CmdWord) (s : State) : State :=
  match decodeCommand w with
  | .ok i => beginCommand i s
  | .error _ => raiseIllCmd s

/-- A presented command word whose completion the host waits for (log 1). -/
def callWord (w : CmdWord) (s : State) : Fetched :=
  match decodeCommand w with
  | .ok i => .run i s
  | .error _ => .done (raiseIllCmd s)

/-- A move that is enabled (R246); `s` is the state with the move taken off the schedule. -/
def takeMove (m : Move) (s : State) : Fetched :=
  match m with
  | .present w => .done (presentWord w s)
  | .call w => callWord w s
  | .bufWrite a v => .done (hostBufWrite a v s)
  | .bufRead a => .done (hostBufRead a s)
  | .readStatus => .done (hostReadStatus s)
  | .envMove scl sda => .done (envChange scl sda s)
  | .rstLow => .done (releaseRst s)
  | .pass => .done (clockStep s)

/-- An order word on the order port: the operation it names, run in place (R11, R99; log 2). -/
def fetchOrder (o : OrdWord) (s : State) : Fetched :=
  match decodeOrder o with
  | .ok i => .run i { s with order := none }
  | .error _ => .stop (.unnamedOrder o)

/-- The host's and the environment's next move, or the block's step: a request that waits leaves the step to the block
(R75, R220, R246), and so does an empty schedule (log 13). -/
def fetchMove (s : State) : Fetched :=
  match s.moves with
  | [] => .done (clockStep s)
  | m :: ms => if !portsReady s && moveWaits m then .done (clockStep s) else takeMove m { s with moves := ms }

/-- The next step of the machine. While `rst = 1` no operation runs (R220), not one ordered either. -/
def fetch (s : State) : Fetched :=
  if s.rst then fetchMove s
  else
    match s.order with
    | some o => fetchOrder o s
    | none => fetchMove s

/-- `s` with an instruction word where the next step takes its instruction from: an order word on the order port, a
command word as the host's next call. Nothing is taken while `rst = 1`, so `rst` is 0; a command word is taken only while
`BUSY = 0`, so a running command is struck out; and the order port is cleared, which would come first. -/
def placeWord (nbits w : Nat) (s : State) : State :=
  if nbits ≤ 16 then { s with rst := false, order := some (BitVec.ofNat 12 w) }
  else { s with rst := false, order := none, busy := false, todo := [], moves := .call (BitVec.ofNat 20 w) :: s.moves }

end Sys2Proof.Machine
end

