-- ==== Sys2Proof/Machine/Step.lean ====
section
/-! DEFINITION. One step of the machine: a next state, a fault or a refusal. Everything it does stands in
Sys2Proof/Machine/Fetch.lean and in the meanings. -/

namespace Sys2Proof.Machine

/-- One step: of the host, of the environment, or of the block (spec/00_scope.md rule R14). -/
def step (s : State) : Host.Outcome State Fault Refusal :=
  match fetch s with
  | .run i t => exec i t
  | .done t => .next t
  | .stop r => .refused r

/-- `s` with an instruction word stored where `step` takes its next instruction from (log 14). -/
def State.withFetchWord (s : State) (nbits w : Nat) : State := placeWord nbits w s

end Sys2Proof.Machine
end

