-- ==== Sys2Proof/Machine/Trace.lean ====
section
/-! DEFINITION. Traces (spec/00_scope.md rules R11, R12): the actions of an operation in order, with the values put on the
lines and sampled; the same for the block's single steps; and the frame symbols of spec/42_transactions.md rule R171. -/

namespace Sys2Proof.Machine

/-- One action of a trace, in the letters of R11: `C0 C1`, `D0 D1`, `W`, `S=b`. -/
inductive Event where
  | scl (v : Bool)
  | sda (v : Bool)
  | wait
  | sample (b : Bool)
  deriving DecidableEq, Repr

/-- The event an action is when it is performed in a state. -/
def eventOf (a : Act) (s : State) : Event :=
  match a with
  | .scl v => .scl v
  | .sda v => .sda (bitOf v s)
  | .wait => .wait
  | .sample => .sample (s.sdaOut && answerAt s 0)

/-- The trace of a script run from a state. -/
def traceOf : List Micro → State → List Event
  | [], _ => []
  | .act a :: r, s => eventOf a s :: traceOf r (perform (.act a) s)
  | .upd u :: r, s => traceOf r (perform (.upd u) s)

/-- The trace of an operation entered in a state (R12). -/
def instrTrace (i : Instr) (s : State) : List Event := traceOf (scriptOf s.finalNack i) (enter i s)

/-- What a trace shows without the values the environment supplied: the kinds of action and the output values (R175). -/
def skeleton (e : Event) : Event :=
  match e with
  | .sample _ => .sample false
  | e => e

/-- The action the block's next step performs. -/
def nextEvent (s : State) : Option Event :=
  if s.busy then
    match s.todo with
    | .act a :: _ => some (eventOf a s)
    | _ => none
  else none

/-- `k` steps of the block (R31). -/
def runBlock : Nat → State → State
  | 0, s => s
  | k + 1, s => runBlock k (blockStep s)

/-- The actions of `k` steps of the block, in order. -/
def blockTrace : Nat → State → List Event
  | 0, _ => []
  | k + 1, s => (nextEvent s).toList ++ blockTrace k (blockStep s)

/-! The pieces of a frame (R171), each as the trace its primitive has -/

/-- `S`, a start condition (R124). -/
def startTrace : List Event := [.sda false, .scl false]

/-- `P`, a stop condition (R125). -/
def stopTrace : List Event := [.scl false, .sda false, .scl true, .sda true]

/-- A written bit cell (R122), also `A` with 0 (R127) and `X` with 1 (R128). -/
def writeCell (x : Bool) : List Event := [.scl false, .wait, .sda x, .scl true, .wait]

/-- A read bit cell (R123), also the slot `r` (R126). -/
def readCell (b : Bool) : List Event := [.scl false, .sda true, .wait, .scl true, .wait, .sample b, .wait]

/-- `[b]`, a byte sent, most significant bit first (R150). -/
def writeByteTrace (b : Byte) : List Event := (List.range 8).flatMap fun j => writeCell (b.getLsbD (7 - j))

/-- Eight read cells, the samples from the `j`-th on (R151). -/
def readByteTrace (s : State) (j : Nat) : List Event := (List.range 8).flatMap fun m => readCell (answerAt s (j + m))

/-- The byte of eight samples from the `j`-th on: `{b7, b6, b5, b4, b3, b2, b1, b0}`, the first sample is bit 7 (R151). -/
def sampledByte (s : State) (j : Nat) : Byte :=
  BitVec.ofBool (answerAt s j) ++ BitVec.ofBool (answerAt s (j + 1)) ++ BitVec.ofBool (answerAt s (j + 2)) ++
    BitVec.ofBool (answerAt s (j + 3)) ++ BitVec.ofBool (answerAt s (j + 4)) ++ BitVec.ofBool (answerAt s (j + 5)) ++
    BitVec.ofBool (answerAt s (j + 6)) ++ BitVec.ofBool (answerAt s (j + 7))

/-- The slots of `n` payload bytes of a writing command: an acknowledge-read slot, then the byte (R162, R171). -/
def writeBlockTrace (s : State) (n : Nat) : List Event :=
  (List.range n).flatMap fun j => readCell (answerAt s j) ++ writeByteTrace (bufByte s (BitVec.ofNat 8 j))

/-- The slots of `n` bytes read, the first sample being number 1: an ack-write slot before every byte but the first
(R165, R171). -/
def readBlockTrace (s : State) (n : Nat) : List Event :=
  (List.range n).flatMap fun j =>
    (if j = 0 then [] else writeCell false) ++ readByteTrace s (1 + 8 * j)

/-- The state after `m` samples taken with the data line released, as far as samples change it (R67). -/
def sampled (m : Nat) (s : State) : State :=
  { s with
    smp := if m = 0 then s.smp else answerAt s (m - 1)
    envSda := if m = 0 then s.envSda else answerAt s (m - 1)
    answers := s.answers.drop m
    samples := s.samples + m }

/-- Whether some of the next `m` samples is 1. -/
def anySample (s : State) (m : Nat) : Bool := (List.range m).any (answerFrom s.answers s.samples)

/-- Whether a command begins with a start condition (R161, R164, R165), which clears NAK in its first step (R45). -/
def sendsStart : Instr → Bool
  | .write _ _ | .read _ _ | .writeBegin _ => true
  | .writeBlock _ | .writeEnd | .waitHalfPeriod | .writeBit _ | .readBit | .writeStart | .writeStop | .readAck
  | .writeAck | .writeNack | .writeByte _ | .readByte => false

/-- How many acknowledge-read slots of a command have ended after `j` of its steps: a slot is 7 actions; it is followed by a
byte of 40, and in `WRITE` and `READ` the first is preceded by the 42 actions of start and control byte (R161 to R165). -/
def slotsEnded (i : Instr) (j : Nat) : Nat :=
  match i with
  | .write _ n => min (n.toNat + 1) ((j - 2) / 47)
  | .read _ _ => if j < 49 then 0 else 1
  | .writeBlock n => min n.toNat ((j + 40) / 47)
  | .writeEnd => if j < 7 then 0 else 1
  | .writeBegin _ | .waitHalfPeriod | .writeBit _ | .readBit | .writeStart | .writeStop | .readAck | .writeAck
  | .writeNack | .writeByte _ | .readByte => 0

/-! Lengths (R170) -/

/-- 1 if `FINAL_NACK` and `n > 0`, else 0 (R170). -/
def nackExtra (fn : Bool) (n : Byte) : Nat := if fn && n != 0#8 then 1 else 0

/-- The number of actions of an operation (R170 and the table of R130). -/
def actionCount (fn : Bool) : Instr → Nat
  | .write _ n => 53 + 47 * n.toNat
  | .read _ n => 53 + 56 * n.toNat + 5 * (n.toNat - 1) + 5 * nackExtra fn n
  | .writeBegin _ => 42
  | .writeBlock n => 47 * n.toNat
  | .writeEnd => 11
  | .waitHalfPeriod => 1
  | .writeBit _ | .writeAck | .writeNack => 5
  | .readBit | .readAck => 7
  | .writeStart => 2
  | .writeStop => 4
  | .writeByte _ => 40
  | .readByte => 56

/-- The number of waits of an operation (R170, R130). -/
def waitCount (fn : Bool) : Instr → Nat
  | .write _ n => 19 + 19 * n.toNat
  | .read _ n => 19 + 24 * n.toNat + 2 * (n.toNat - 1) + 2 * nackExtra fn n
  | .writeBegin _ | .writeByte _ => 16
  | .writeBlock n => 19 * n.toNat
  | .writeEnd | .readBit | .readAck => 3
  | .waitHalfPeriod => 1
  | .writeBit _ | .writeAck | .writeNack => 2
  | .writeStart | .writeStop => 0
  | .readByte => 24

/-- The number of samples of an operation (R170, R130). -/
def sampleCount : Instr → Nat
  | .write _ n => n.toNat + 1
  | .read _ n => 1 + 8 * n.toNat
  | .writeBlock n => n.toNat
  | .writeEnd | .readBit | .readAck => 1
  | .readByte => 8
  | .writeBegin _ | .waitHalfPeriod | .writeBit _ | .writeAck | .writeNack | .writeStart | .writeStop
  | .writeByte _ => 0

/-- Clock pulses of a command that are bits (R170). -/
def bitPulses (fn : Bool) : Instr → Nat
  | .writeBegin _ => 8
  | .writeBlock n => 9 * n.toNat
  | .writeEnd => 1
  | .write _ n => 9 * (n.toNat + 1)
  | .read _ n => 9 + 8 * n.toNat + (n.toNat - 1) + nackExtra fn n
  | .waitHalfPeriod | .writeBit _ | .readBit | .writeStart | .writeStop | .readAck | .writeAck | .writeNack
  | .writeByte _ | .readByte => 0

/-- Clock pulses of a command that belong to its stop condition (R125: "not a data bit"). -/
def stopPulses : Instr → Nat
  | .write _ _ | .read _ _ | .writeEnd => 1
  | .writeBegin _ | .writeBlock _ | .waitHalfPeriod | .writeBit _ | .readBit | .writeStart | .writeStop | .readAck
  | .writeAck | .writeNack | .writeByte _ | .readByte => 0

/-- Loads from BUF of a command (R170). -/
def bufLoads : Instr → Nat
  | .write _ n | .writeBlock n => n.toNat
  | .read _ _ | .writeBegin _ | .writeEnd | .waitHalfPeriod | .writeBit _ | .readBit | .writeStart | .writeStop
  | .readAck | .writeAck | .writeNack | .writeByte _ | .readByte => 0

/-- Stores to BUF of a command (R170). -/
def bufStores : Instr → Nat
  | .read _ n => n.toNat
  | .write _ _ | .writeBlock _ | .writeBegin _ | .writeEnd | .waitHalfPeriod | .writeBit _ | .readBit | .writeStart
  | .writeStop | .readAck | .writeAck | .writeNack | .writeByte _ | .readByte => 0

end Sys2Proof.Machine
end

