-- ==== Sys2Proof/Machine/Recorder.lean ====
section
/-! DEFINITION. The bus line recorder of spec/95_test_vectors.md section 2 (92_eei_decisions.md D31): test equipment that
reads a trace as a frame, no part of the block. It watches the block's outputs, with the environment released except that
during a read cell the data level is the value the block samples. -/

namespace Sys2Proof.Machine

/-- What the recorder emits: a start, a stop, or a bit. -/
inductive Mark where
  | start
  | stop
  | bit (b : Bool)
  deriving DecidableEq, Repr

/-- What the recorder remembers: the two levels and the pending bit. -/
structure Recorder where
  scl : Bool
  sda : Bool
  pending : Option Bool
  deriving DecidableEq, Repr

/-- The recorder on an idle bus. -/
def recorderIdle : Recorder := ⟨true, true, none⟩

/-- One action seen (section 2, rules 1 to 4): the recorder after it and what it emits. -/
def record (r : Recorder) (e : Event) : Recorder × List Mark :=
  match e with
  | .sda v =>
    if r.scl && (r.sda != v) then (⟨r.scl, v, none⟩, [if v then .stop else .start])
    else (⟨r.scl, v, r.pending⟩, [])
  | .scl true => if r.scl then (r, []) else (⟨true, r.sda, some r.sda⟩, [])
  | .scl false =>
    match r.scl, r.pending with
    | true, some b => (⟨false, r.sda, none⟩, [.bit b])
    | _, _ => (⟨false, r.sda, none⟩, [])
  | .wait => (r, [])
  | .sample b => (⟨r.scl, r.sda, r.pending.map fun _ => b⟩, [])

/-- The frame of a trace, and the recorder at its end (whose pending bit rule 5 writes in parentheses). -/
def recordAll : Recorder → List Event → Recorder × List Mark
  | r, [] => (r, [])
  | r, e :: es => ((recordAll (record r e).1 es).1, (record r e).2 ++ (recordAll (record r e).1 es).2)

/-- The eight bits of a byte, most significant first. -/
def byteMarks (b : Byte) : List Mark := (List.range 8).map fun j => .bit (b.getLsbD (7 - j))

/-- Whether every change of the data output in a trace happens while the clock output is low, starting from these
outputs (R129). -/
def dataStableWhileHigh : Bool → Bool → List Event → Bool
  | _, _, [] => true
  | _, sda, .scl v :: es => dataStableWhileHigh v sda es
  | scl, sda, .sda v :: es => (!scl || v == sda) && dataStableWhileHigh scl v es
  | scl, sda, .wait :: es => dataStableWhileHigh scl sda es
  | scl, sda, .sample _ :: es => dataStableWhileHigh scl sda es

end Sys2Proof.Machine
end

