-- ==== Sys2Proof/Safety.lean ====
section
/-! DEFINITION. What a good state and a safe run are (spec/70_reset_and_hazards.md rule R245, spec/10_state.md rules R23
and R28), the order of commands (spec/42_transactions.md rule R160), and the machine's invariant. -/

namespace Sys2Proof.Machine

/-- The fault bit of a run (R28, R225; 93 U4): once set, no claim of good behaviour covers what follows. -/
def faultBit (s : State) : Bool := s.seqErr

/-- Whether a move is a step of the host (R245, R246); the environment's moves and the block's turn are none. -/
def isHostStep : Move → Bool
  | .present _ | .call _ | .bufWrite _ _ | .bufRead _ | .readStatus | .rstLow => true
  | .envMove _ _ | .pass => false

/-- The run has ended (R245): the host has no further step and `BUSY = 0`. -/
def runEnded (s : State) : Bool := !s.moves.any isHostStep && !s.busy

/-- The final state is good (R245): `TXN = IDLE`, `SEQ_ERR = 0`, `ILL_CMD = 0`. -/
def goodFinal (s : State) : Bool := runEnded s && decide (s.txn = .idle) && !s.seqErr && !s.illCmd

/-- The value of `TXN` a command leaves (R167), whatever it was before. -/
def txnAfter (i : Instr) (t : Txn) : Txn :=
  match i with
  | .writeBegin _ => .writeOpen
  | .write _ _ | .read _ _ | .writeEnd => .idle
  | .writeBlock _ | .waitHalfPeriod | .writeBit _ | .readBit | .writeStart | .writeStop | .readAck | .writeAck
  | .writeNack | .writeByte _ | .readByte => t

/-- Whether a command finds the value of `TXN` it requires (R166). -/
def preHolds (i : Instr) (t : Txn) : Bool :=
  match headerOf i with
  | some h => decide (t = h.pre)
  | none => true

/-- A sequence of commands in the order of R160, from this value of `TXN`. -/
def legalOrder : Txn → List Instr → Bool
  | _, [] => true
  | t, i :: is => preHolds i t && legalOrder (txnAfter i t) is

/-- Commands executed one after another. -/
def execAll : List Instr → State → Host.Outcome State Fault Refusal
  | [], s => .next s
  | i :: is, s =>
    match exec i s with
    | .next t => execAll is t
    | .fault r => .fault r
    | .refused r => .refused r

/-- The pending work of a running command begins with an action, so that every step of the block performs one. -/
def headIsAction (ms : List Micro) : Bool :=
  match ms with
  | .upd _ :: _ => false
  | _ => true

/-- The outputs between commands (R23, R173): the clock is released; and the data line too where no transaction is open
and the order of commands was kept. -/
abbrev LinesAtRest (s : State) : Prop := s.sclOut = true ∧ (s.txn = .idle → s.seqErr = false → s.sdaOut = true)

/-- The invariant of the machine: no order word on the order port, BUF in canonical form, `BUSY` exactly while actions
remain, the next entry an action, and the lines at rest once the running command has done what remains of it. -/
abbrev Inv (s : State) : Prop :=
  s.order = none ∧ Memory.wf s.buf = true ∧ s.busy = !s.todo.isEmpty ∧ headIsAction s.todo = true ∧
    LinesAtRest (complete s.todo s)

end Sys2Proof.Machine
end

