-- ==== Sys2Proof/Certificates/Slice0/Obligations.lean ====
section
/-! DEFINITION. The statements for the provers. Each docstring names the rules of spec/ the statement formalises. An
equation `exec i s = .next t` with `t` written as an update of `s` is the instruction's result, its frame (every field not
named is unchanged, BUF among them) and its completion at once. `answerAt s j` is what the environment applies at the
`j`-th sample from `s`, a free value where `s` holds no answer; the statements hold for every such value. In every such
equation `waits` (log 8), `samples` and `answers` (log 3), `todo` (log 9) and, for an internal operation run in place, `k`
(log 2) are the model's own bookkeeping, not the rule's; so is that `bufRdata` stays as it is (log 21); that a command runs
whole in one `exec` is log 1. -/

open Sys2Proof Sys2Proof.Machine

/-! Reset, encoding -/

/-- R40: the value after reset of every piece of state that has one, the status bits 7:6 among them; the block is then ready
for the first command word. The working registers, unspecified there, are not named; that the clock edge that leaves BUF alone
may fall in any state is log 11. -/
def Obligations.ResetStateHasTheValuesOfR40 : Prop :=
  State.reset.sclOut = true ∧ State.reset.sdaOut = true ∧ State.reset.txn = .idle ∧ State.reset.busy = false ∧
    State.reset.ackf = false ∧ State.reset.nak = false ∧ State.reset.seqErr = false ∧ State.reset.illCmd = false ∧
    (status State.reset).getLsbD 6 = false ∧ (status State.reset).getLsbD 7 = false ∧ State.reset.k = 0#14 ∧
    cmdReady State.reset = true ∧ ∀ s a, bufByte (assertRst s) a = bufByte s a

/-- A clock edge with `rst = 1` gives that table from any state and leaves BUF (70_reset_and_hazards.md section 1; that
`assertRst` is such an edge in the middle of a run too is log 11); the whole-state equation `assertRst State.reset =
State.reset` includes the working registers, whose value 0 is the model's choice (log 5), and the fields that are not the
block's (log 6); the last clause, that the block waits, rests on the empty schedule (log 6) and the idle step (log 13). -/
def Obligations.ResetLeavesTheTableOfR40 : Prop :=
  (∀ s : State,
    let t := assertRst s
    t.sclOut = true ∧ t.sdaOut = true ∧ t.txn = .idle ∧ t.busy = false ∧ t.ackf = false ∧ t.nak = false ∧
      t.seqErr = false ∧ t.illCmd = false ∧ status t = 0#8 ∧ t.k = 0#14 ∧ t.buf = s.buf ∧
      (∀ a, bufByte t a = bufByte s a)) ∧
    assertRst State.reset = State.reset ∧ step State.reset = .next State.reset

/-- R220, R246: while `rst = 1` both ready outputs are 0 and nothing is accepted: a waiting request stays at its port, and
the step is the clock edge that puts the registers at the table of R40, whatever the block was doing; once `rst` is low
again a command can be presented. How `rst` comes to be 1 and goes low is the model's choice (log 11). -/
def Obligations.NothingIsAcceptedWhileRstIsHigh : Prop :=
  ∀ s : State, s.rst = true →
    cmdReady s = false ∧ bufReady s = false ∧ (assertRst s).rst = true ∧ (assertRst s).moves = s.moves ∧
    ((s.moves = [] ∨ ∃ m ms, s.moves = m :: ms ∧ moveWaits m = true) → step s = .next (assertRst s)) ∧
    (∀ ms, s.moves = .pass :: ms → step s = .next (assertRst { s with moves := ms })) ∧
    ∀ ms, s.moves = .rstLow :: ms →
      ∃ t, step s = .next t ∧ t = { assertRst s with rst := false, moves := ms } ∧ cmdReady t = true ∧ bufReady t = true

/-- A sanity check of the decoder on the vectors V40 to V54 of 95_test_vectors.md and on order words of R99. -/
def Obligations.DecoderReadsTheVectorsOfTheSpec : Prop :=
  decode (.command 0x15003#20) = .ok (.write 0x50#7 3#8) ∧
  decode (.command 0x25002#20) = .ok (.read 0x50#7 2#8) ∧
  decode (.command 0x33C00#20) = .ok (.writeBegin 0x3C#7) ∧
  decode (.command 0x40002#20) = .ok (.writeBlock 2#8) ∧
  decode (.command 0x50000#20) = .ok .writeEnd ∧
  decode (.command 0x17FFF#20) = .ok (.write 0x7F#7 255#8) ∧
  decode (.command 0x00000#20) = .error (.reservedOp 0x0#4) ∧
  decode (.command 0xF0000#20) = .error (.reservedOp 0xF#4) ∧
  decode (.command 0x1D003#20) = .error .zSet ∧
  decode (.command 0x33C01#20) = .error .unusedN ∧
  decode (.command 0x45002#20) = .error .unusedAddr ∧
  decode (.command 0x50001#20) = .error .unusedN ∧
  decode (.order 0x201#12) = .ok (.writeBit true) ∧
  decode (.order 0x600#12) = .ok .readAck ∧
  decode (.order 0x9A0#12) = .ok (.writeByte 0xA0#8) ∧
  decode (.order 0xB00#12) = .error (.unnamedUop 0xB#4)

/-- For every well-formed instruction, decoding its encoded word gives it back, every operand at every value. -/
def Obligations.DecodingAnEncodedInstructionGivesItBack : Prop :=
  ∀ i : Instr, i.WellFormed → decode (encode i) = .ok i

/-- Each word has at most one meaning: a word that decodes is the encoding of what it decodes to. -/
def Obligations.EncodingADecodedWordGivesItBack : Prop :=
  ∀ (p : PortWord) (i : Instr), decode p = .ok i → encode i = p

/-- R93: a word is legal exactly when it matches a row (`w & mask = match`), and then it decodes to that row's command; so
no two rows match the same word. -/
def Obligations.LegalWordsAreTheWordsThatMatchARow : Prop :=
  (∀ (w : CmdWord) (r : Row), r ∈ commandRows →
    (r.accepts w.toNat = true ↔ ∃ i, decodeCommand w = .ok i ∧ i.row = r)) ∧
  (∀ (w : CmdWord) (i : Instr), decodeCommand w = .ok i → i.row ∈ commandRows) ∧
  (∀ (w : CmdWord) (r r' : Row), r ∈ commandRows → r' ∈ commandRows →
    r.accepts w.toNat = true → r'.accepts w.toNat = true → r = r')

/-- R97: the complete list of illegal words; and no command word decodes to an internal operation. -/
def Obligations.IllegalWordsAreTheListOfR97 : Prop :=
  (∀ w : CmdWord,
    (∃ e, decodeCommand w = .error e) ↔
      (fieldOp w = 0x0#4 ∨ 0x6#4 ≤ fieldOp w) ∨ fieldZ w = true ∨
        (fieldOp w = 0x3#4 ∧ fieldN w ≠ 0#8) ∨ (fieldOp w = 0x4#4 ∧ fieldAddr w ≠ 0#7) ∨
        (fieldOp w = 0x5#4 ∧ (fieldAddr w ≠ 0#7 ∨ fieldN w ≠ 0#8))) ∧
  (∀ (w : CmdWord) (i : Instr), decodeCommand w = .ok i → i.isCommand = true)

/-- R94: the control byte is the address shifted left by one with the direction bit in bit 0; even for writes, odd for
reads, every byte value reached; and the worked examples. (Which command uses which `RW` is in the commands' statements.) -/
def Obligations.ControlByteIsAddressAndDirection : Prop :=
  (∀ (a : SlaveAddr) (rw : Bool),
    ctrlByte a rw = ((a.setWidth 8) <<< 1) ||| (BitVec.ofBool rw).setWidth 8 ∧
      (ctrlByte a rw).getLsbD 0 = rw ∧ ∀ j, j < 7 → (ctrlByte a rw).getLsbD (j + 1) = a.getLsbD j) ∧
  (∀ b : Byte, ∃ a rw, ctrlByte a rw = b) ∧
  ctrlByte 0x50#7 false = 0xA0#8 ∧ ctrlByte 0x50#7 true = 0xA1#8

/-! The step -/

/-- A step runs the decoded instruction: with the block idle, a command word the host calls is executed, the call being
taken off the schedule. That the whole command is one step is the model's choice (log 1); `BlockStepsDoWhatExecDoes` says
that it is what the block does action by action. -/
def Obligations.StepExecutesTheCalledCommand : Prop :=
  ∀ (s : State) (w : CmdWord) (ms : List Move) (i : Instr),
    s.rst = false → s.order = none → s.moves = .call w :: ms → s.busy = false → decode (.command w) = .ok i →
      step s = exec i { s with moves := ms }

/-- A step runs the decoded internal operation that an order word names, in place, and clears the order port (the port is
the model's choice, log 2); an order word that names nothing is refused by name (log 15). -/
def Obligations.StepExecutesTheOrderWord : Prop :=
  ∀ (s : State) (o : OrdWord), s.rst = false → s.order = some o →
    (∀ i, decode (.order o) = .ok i → step s = exec i { s with order := none }) ∧
    (∀ e, decode (.order o) = .error e → step s = .refused (.unnamedOrder o))

/-- R95: the acceptance step of a legal word loads the latch, makes the precondition check, sets `K` and `BUSY`, and performs
no action: lines, waits, samples, BUF and the other flags stay. (`WRITE_BLOCK 0` has no action to do and ends here, R98.)
The byte index `I` may be cleared here, a dead register (log 10). -/
def Obligations.AcceptanceLoadsTheLatchAndPerformsNoAction : Prop :=
  ∀ (s : State) (w : CmdWord) (ms : List Move) (i : Instr) (h : Header),
    s.rst = false → s.order = none → s.moves = .present w :: ms → s.busy = false →
    decodeCommand w = .ok i → headerOf i = some h →
      ∃ (j : Byte) (b : Bool) (r : List Micro),
        step s = .next
          { s with
            moves := ms, opr := fieldOp w, addrr := fieldAddr w, nr := fieldN w
            seqErr := s.seqErr || !decide (s.txn = h.pre)
            k := 0, busy := b, todo := r, i := j } ∧
        (b = true ↔ 0 < actionCount s.finalNack i) ∧ (b = false → r = []) ∧
        (j = s.i ∨ (fieldOp w = 0x4#4 ∧ j = 0#8))

/-- R96: the step that presents an illegal word raises `ILL_CMD`, consumes the word and does nothing else; also when the
host waits for completion. -/
def Obligations.IllegalWordOnlyRaisesIllCmd : Prop :=
  ∀ (s : State) (w : CmdWord) (ms : List Move) (e : Reject),
    s.rst = false → s.order = none → (s.moves = .present w :: ms ∨ s.moves = .call w :: ms) → s.busy = false →
    decodeCommand w = .error e →
      step s = .next { s with moves := ms, illCmd := true }

/-- R246, R75, R62: while `BUSY = 1` a command word or a buffer request waits at its port, neither lost nor performed; the
step is the block's. -/
def Obligations.RequestsWaitWhileBusy : Prop :=
  ∀ (s : State) (m : Move) (ms : List Move),
    s.rst = false → s.order = none → s.moves = m :: ms → moveWaits m = true → s.busy = true →
      step s = .next (blockStep s) ∧ (blockStep s).moves = m :: ms ∧ cmdReady s = false ∧ bufReady s = false

/-- One step of the block is one action, `K <- K + 1`, and the updates placed between it and the next action, in order; with
no action left the command is complete in that same step (R12, R31, R45, R98; which updates stand after which action is log
18). It is the block's turn with an empty schedule, with a request that waits, or where the schedule says so. -/
def Obligations.BlockStepPerformsOneAction : Prop :=
  ∀ (s : State) (a : Act) (r : List Micro) (ms : List Move),
    s.rst = false → s.order = none → s.busy = true → s.todo = .act a :: r →
    (s.moves = .pass :: ms ∨ (s.moves = ms ∧ (ms = [] ∨ ∃ m ms', ms = m :: ms' ∧ moveWaits m = true))) →
      ∃ us r' t, r = us ++ r' ∧ (∀ m ∈ us, ∃ u, m = .upd u) ∧ headIsAction r' = true ∧ step s = .next t ∧
        t = { runScript us (stepAct a { s with moves := ms }) with todo := r', busy := !r'.isEmpty } ∧
        t.k = s.k + 1 ∧ nextEvent s = some (eventOf a s) ∧
        (∀ x, a = .scl x → t.sclOut = x ∧ t.sdaOut = s.sdaOut) ∧
        (∀ x, a = .sda x → t.sclOut = s.sclOut ∧ t.sdaOut = bitOf x s) ∧
        (a = .wait → t.waits = s.waits + 1 ∧ t.sclOut = s.sclOut ∧ t.sdaOut = s.sdaOut) ∧
        (a = .sample → t.smp = (s.sdaOut && answerAt s 0) ∧ t.sclOut = s.sclOut ∧ t.sdaOut = s.sdaOut) ∧
        (t.busy = false ↔ ∀ m ∈ r, ∃ u, m = .upd u)

/-- The block does nothing on its own between commands: with no request and `BUSY = 0` a step changes nothing (R14, R15,
R205; that such a step exists is the model's choice, log 13). -/
def Obligations.IdleBlockDoesNothing : Prop :=
  ∀ s : State, s.rst = false → s.order = none → s.moves = [] → s.busy = false → step s = .next s

/-- R62: the host reads and writes BUF one byte at a time while `BUSY = 0`, also while `TXN = WRITE_OPEN`; a request made
while a command runs waits, is not dropped and raises no flag: the step is the block's. That `bufRdata`, valid in the cycle
of the access (R39), stays as it is in such a step and in a write is the model's choice (log 21). -/
def Obligations.HostReadsAndWritesBufWhileIdle : Prop :=
  (∀ (s : State) (a v : Byte) (ms : List Move), s.rst = false → s.order = none → s.busy = false →
    (s.moves = .bufWrite a v :: ms →
      ∃ t, step s = .next t ∧ t = { s with moves := ms, buf := t.buf } ∧ bufByte t a = v ∧
        ∀ a', a' ≠ a → bufByte t a' = bufByte s a') ∧
    (s.moves = .bufRead a :: ms → step s = .next { s with moves := ms, bufRdata := bufByte s a })) ∧
  (∀ (s : State) (a v : Byte) (ms : List Move), s.rst = false → s.order = none → s.busy = true →
    (s.moves = .bufWrite a v :: ms ∨ s.moves = .bufRead a :: ms) →
      step s = .next (blockStep s) ∧ (blockStep s).moves = s.moves ∧ (blockStep s).bufRdata = s.bufRdata) ∧
  ∀ s : State, s.rst = false → bufReady s = !s.busy

/-- R30: the fields of the status vector, bits 7:6 being 0; and the host reads it at any time, also while `BUSY = 1`,
without side effect (the value read is kept in the model's own field `statusRead`). -/
def Obligations.StatusVectorShowsTheFlagsAtAnyTime : Prop :=
  (∀ s : State,
    (status s).getLsbD 0 = s.busy ∧ ((status s).getLsbD 1 = true ↔ s.txn = .writeOpen) ∧
      (status s).getLsbD 2 = s.ackf ∧ (status s).getLsbD 3 = s.nak ∧ (status s).getLsbD 4 = s.seqErr ∧
      (status s).getLsbD 5 = s.illCmd ∧ (status s).getLsbD 6 = false ∧ (status s).getLsbD 7 = false) ∧
  (∀ (s : State) (ms : List Move), s.order = none → s.moves = .readStatus :: ms →
    step s = .next { s with moves := ms, statusRead := status s })

/-- R14: the environment may change what it applies to either line at any time, and the lines' levels follow at once; the
block's state does not change. -/
def Obligations.EnvironmentMovesAtAnyTime : Prop :=
  ∀ (s : State) (c d : Bool) (ms : List Move), s.order = none → s.moves = .envMove c d :: ms →
    ∃ t, step s = .next t ∧ t = { s with moves := ms, envScl := c, envSda := d } ∧
      sclLine t = (s.sclOut && c) ∧ sdaLine t = (s.sdaOut && d)

/-- R67: `sample()` returns `SDA_OUT & env_sda` into `S`; with `SDA_OUT = 0` it is 0 whatever the environment does; it
changes neither line nor, beyond the answer it gives, the environment. -/
def Obligations.SampleIsTheWiredAnd : Prop :=
  ∀ s : State,
    performAct .sample s =
      { s with
        smp := s.sdaOut && answerAt s 0, envSda := answerAt s 0
        answers := s.answers.tail, samples := s.samples + 1 } ∧
    (performAct .sample s).smp = sdaLine (performAct .sample s) ∧
    (s.sdaOut = false → (performAct .sample s).smp = false)

/-! The signal primitives -/

/-- R121: one `wait()`: at least `T_HALF`, which is greater than 0, passes; nothing else changes but `K`. -/
def Obligations.WaitHalfPeriodOnlyWaits : Prop :=
  ∀ s : State,
    exec .waitHalfPeriod s = .next { s with k := s.k + 1, waits := s.waits + 1 } ∧
    instrTrace .waitHalfPeriod s = [.wait] ∧
    (∀ t, exec .waitHalfPeriod s = .next t → leastElapsed t = leastElapsed s + Config.tHalf) ∧ 0 < Config.tHalf ∧
    encode .waitHalfPeriod = .order 0x100#12

/-- R122: `write_bit(x)` leaves the clock released and the data output at `x`; trace `C0 W Dx C1 W`. -/
def Obligations.WriteBitPutsTheBitOnTheDataLine : Prop :=
  ∀ (x : Bool) (s : State),
    exec (.writeBit x) s = .next { s with k := s.k + 5, waits := s.waits + 2, sclOut := true, sdaOut := x } ∧
    instrTrace (.writeBit x) s = [.scl false, .wait, .sda x, .scl true, .wait] ∧
    encode (.writeBit x) = .order (0x200#12 ||| (BitVec.ofBool x).setWidth 12)

/-- R123: `read_bit()` releases the data line, samples it once while the clock is released, and leaves the sample in `S`;
trace `C0 D1 W C1 W S=b W`. -/
def Obligations.ReadBitSamplesTheReleasedDataLine : Prop :=
  ∀ s : State,
    exec .readBit s =
      .next { sampled 1 s with k := s.k + 7, waits := s.waits + 3, sclOut := true, sdaOut := true } ∧
    (∀ t, exec .readBit s = .next t → t.smp = answerAt s 0) ∧
    instrTrace .readBit s =
      [.scl false, .sda true, .wait, .scl true, .wait, .sample (answerAt s 0), .wait] ∧
    encode .readBit = .order 0x300#12

/-- R124: `write_start()` pulls data, then clock low, and clears `NAK`; trace `D0 C0`. The recorder of 95_test_vectors.md
section 2 (log 20) sees a start condition exactly when both levels were high on entry; from an idle bus it sees nothing else,
and with the data line already low and no bit pending it sees nothing. -/
def Obligations.WriteStartPullsDataThenClockLow : Prop :=
  ∀ s : State,
    exec .writeStart s = .next { s with k := s.k + 2, sclOut := false, sdaOut := false, nak := false } ∧
    instrTrace .writeStart s = [.sda false, .scl false] ∧
    (recordAll recorderIdle (instrTrace .writeStart s)).2 = [.start] ∧
    (recordAll ⟨true, false, none⟩ (instrTrace .writeStart s)).2 = [] ∧
    (∀ c d p, Mark.start ∈ (recordAll ⟨c, d, p⟩ (instrTrace .writeStart s)).2 ↔ c = true ∧ d = true) ∧
    encode .writeStart = .order 0x400#12

/-- R125: `write_stop()` leaves both lines released; trace `C0 D0 C1 D1`; entered with the clock released and no bit
pending, the recorder of 95_test_vectors.md section 2 (log 20) sees a stop condition and no bit. -/
def Obligations.WriteStopReleasesBothLines : Prop :=
  ∀ s : State,
    exec .writeStop s = .next { s with k := s.k + 4, sclOut := true, sdaOut := true } ∧
    instrTrace .writeStop s = [.scl false, .sda false, .scl true, .sda true] ∧
    (∀ d, (recordAll ⟨true, d, none⟩ (instrTrace .writeStop s)).2 = [.stop]) ∧
    encode .writeStop = .order 0x500#12

/-- `read_ack()` (40_signal_primitives.md section 4, whose body the spec marks derived): `read_bit`, then `ACKF` is the
inverted sample and `NAK` is set where the sample is 1. -/
def Obligations.ReadAckRecordsTheSlotInTwoFlags : Prop :=
  ∀ s : State,
    exec .readAck s =
      .next
        { sampled 1 s with
          k := s.k + 7, waits := s.waits + 3, sclOut := true, sdaOut := true
          ackf := !answerAt s 0, nak := s.nak || answerAt s 0 } ∧
    instrTrace .readAck s = readCell (answerAt s 0) ∧
    encode .readAck = .order 0x600#12

/-- `write_ack()` and `write_nack()` (40_signal_primitives.md section 4, bodies marked derived there): a written bit 0 and a
written bit 1, with no flag changed. -/
def Obligations.WriteAckSendsZeroAndWriteNackSendsOne : Prop :=
  ∀ s : State,
    exec .writeAck s = .next { s with k := s.k + 5, waits := s.waits + 2, sclOut := true, sdaOut := false } ∧
    instrTrace .writeAck s = writeCell false ∧
    exec .writeNack s = .next { s with k := s.k + 5, waits := s.waits + 2, sclOut := true, sdaOut := true } ∧
    instrTrace .writeNack s = writeCell true ∧
    encode .writeAck = .order 0x700#12 ∧ encode .writeNack = .order 0x800#12

/-- Data changes only while the clock is low, except in start and stop (40_signal_primitives.md section 5, marked derived
there): in the trace of every bit and byte transfer, from any outputs. -/
def Obligations.DataChangesOnlyWhileTheClockIsLow : Prop :=
  ∀ (i : Instr) (s : State),
    i.isCommand = false → i ≠ .writeStart → i ≠ .writeStop →
      dataStableWhileHigh s.sclOut s.sdaOut (instrTrace i s) = true

/-! The byte serializer -/

/-- R150: `write_byte(x)` sends the eight bits of `x`, most significant first, in 40 actions with 16 waits and no sample; it
leaves `SDA_OUT = x[0]`, `SHR = 0`, `BITC = 8`. -/
def Obligations.WriteByteSendsEightBitsMsbFirst : Prop :=
  ∀ (x : Byte) (s : State),
    exec (.writeByte x) s =
      .next
        { s with
          k := s.k + 40, waits := s.waits + 16, sclOut := true, sdaOut := x.getLsbD 0, shr := 0, bitc := 8 } ∧
    instrTrace (.writeByte x) s = writeByteTrace x ∧
    encode (.writeByte x) = .order (0x900#12 ||| x.setWidth 12)

/-- R151: `read_byte()` assembles eight samples, the first being bit 7, in 56 actions with 24 waits; it sends no
acknowledge and writes no flag. -/
def Obligations.ReadByteAssemblesEightSamplesMsbFirst : Prop :=
  ∀ s : State,
    exec .readByte s =
      .next
        { sampled 8 s with
          k := s.k + 56, waits := s.waits + 24, sclOut := true, sdaOut := true
          shr := sampledByte s 0, bitc := 8 } ∧
    instrTrace .readByte s = readByteTrace s 0 ∧
    encode .readByte = .order 0xA00#12

/-- Round trip of the serializer (41_byte_serializer.md, the rule the spec marks derived): where the samples of `read_byte`
are the data values `write_byte(b)` sends, in order, `read_byte` returns `b`. -/
def Obligations.ReadByteReturnsWhatWriteByteSent : Prop :=
  ∀ (b : Byte) (s t : State),
    (instrTrace (.writeByte b) t).filterMap (fun e => match e with | .sda v => some v | _ => none) =
        (List.range 8).map (answerAt s) →
      ∃ u, exec .readByte s = .next u ∧ u.shr = b

/-! The commands -/

/-- R161: `WRITE_BEGIN addr`: start and the control byte with direction bit 0, 42 actions, 16 waits, no sample; `TXN` becomes
WRITE_OPEN, `NAK` is cleared, the lines are left at 1 and 0; `SEQ_ERR` is raised if a transaction was open. -/
def Obligations.WriteBeginOpensAWriteTransaction : Prop :=
  ∀ (a : SlaveAddr) (s : State), s.busy = false →
    exec (.writeBegin a) s =
      .next
        { s with
          opr := 0x3#4, addrr := a, nr := 0, k := 42, busy := false, todo := []
          seqErr := s.seqErr || !decide (s.txn = .idle)
          nak := false, txn := .writeOpen, sclOut := true, sdaOut := false
          shr := 0, bitc := 8, waits := s.waits + 16 } ∧
    instrTrace (.writeBegin a) s = startTrace ++ writeByteTrace (ctrlByte a false) ∧
    encode (.writeBegin a) = .command (0x30000#20 ||| (a.setWidth 20 <<< 8))

/-- R162, R168: `WRITE_BLOCK n`: for each of the `n` bytes one acknowledge-read slot and then the byte `BUF[i]`; `TXN` and
BUF unchanged; `n = 0` does nothing on the lines; `SEQ_ERR` is raised if no transaction was open. -/
def Obligations.WriteBlockSendsTheBytesOfBuf : Prop :=
  ∀ (n : Byte) (s : State), s.busy = false →
    exec (.writeBlock n) s =
      .next
        { sampled n.toNat s with
          opr := 0x4#4, addrr := 0, nr := n, k := BitVec.ofNat 14 (47 * n.toNat), busy := false, todo := []
          seqErr := s.seqErr || !decide (s.txn = .writeOpen)
          i := n
          sclOut := if n = 0#8 then s.sclOut else true
          sdaOut := if n = 0#8 then s.sdaOut else (bufByte s (n - 1)).getLsbD 0
          ackf := if n = 0#8 then s.ackf else !answerAt s (n.toNat - 1)
          nak := s.nak || anySample s n.toNat
          shr := if n = 0#8 then s.shr else 0
          bitc := if n = 0#8 then s.bitc else 8
          waits := s.waits + 19 * n.toNat } ∧
    instrTrace (.writeBlock n) s = writeBlockTrace s n.toNat ∧
    encode (.writeBlock n) = .command (0x40000#20 ||| n.setWidth 20)

/-- R163: `WRITE_END`: the last acknowledge-read slot and the stop condition, 11 actions, 3 waits, 1 sample; both lines
released, `TXN` IDLE; `SEQ_ERR` is raised if no transaction was open. -/
def Obligations.WriteEndClosesTheTransaction : Prop :=
  ∀ s : State, s.busy = false →
    exec .writeEnd s =
      .next
        { sampled 1 s with
          opr := 0x5#4, addrr := 0, nr := 0, k := 11, busy := false, todo := []
          seqErr := s.seqErr || !decide (s.txn = .writeOpen)
          ackf := !answerAt s 0, nak := s.nak || answerAt s 0
          txn := .idle, sclOut := true, sdaOut := true, waits := s.waits + 3 } ∧
    instrTrace .writeEnd s = readCell (answerAt s 0) ++ stopTrace ∧
    encode .writeEnd = .command 0x50000#20

/-- R164: `WRITE addr, n`: start, control byte with direction bit 0, `n` bytes of BUF in order with an acknowledge-read slot
before each, one more slot, stop; both lines released, `TXN` IDLE, BUF unchanged; `NAK` tells whether any slot was not
acknowledged, `ACKF` the last one; `SEQ_ERR` is raised if a transaction was open. -/
def Obligations.WriteSendsACompleteTransaction : Prop :=
  ∀ (a : SlaveAddr) (n : Byte) (s : State), s.busy = false →
    exec (.write a n) s =
      .next
        { sampled (n.toNat + 1) s with
          opr := 0x1#4, addrr := a, nr := n, k := BitVec.ofNat 14 (53 + 47 * n.toNat), busy := false, todo := []
          seqErr := s.seqErr || !decide (s.txn = .idle)
          i := n, ackf := !answerAt s n.toNat, nak := anySample s (n.toNat + 1)
          txn := .idle, sclOut := true, sdaOut := true, shr := 0, bitc := 8
          waits := s.waits + (19 + 19 * n.toNat) } ∧
    instrTrace (.write a n) s =
      startTrace ++ writeByteTrace (ctrlByte a false) ++ writeBlockTrace s n.toNat ++
        readCell (answerAt s n.toNat) ++ stopTrace ∧
    encode (.write a n) = .command (0x10000#20 ||| (a.setWidth 20 <<< 8) ||| n.setWidth 20)

/-- R165: `READ addr, n`: start, control byte with direction bit 1, one acknowledge-read slot, `n` bytes into BUF in order
with an ack-write slot between them, the final not-acknowledge where `FINAL_NACK` asks for it, stop; both lines released,
`TXN` IDLE; BUF from `n` on unchanged; the flags tell the one acknowledge-read slot. -/
def Obligations.ReadReceivesACompleteTransaction : Prop :=
  ∀ (a : SlaveAddr) (n : Byte) (s : State), s.busy = false →
    (∃ t, exec (.read a n) s = .next t ∧
      t =
        { sampled (1 + 8 * n.toNat) s with
          opr := 0x2#4, addrr := a, nr := n
          k := BitVec.ofNat 14 (53 + 56 * n.toNat + 5 * (n.toNat - 1) + 5 * nackExtra s.finalNack n)
          busy := false, todo := []
          seqErr := s.seqErr || !decide (s.txn = .idle)
          i := n, ackf := !answerAt s 0, nak := answerAt s 0
          txn := .idle, sclOut := true, sdaOut := true
          shr := if n = 0#8 then 0 else sampledByte s (1 + 8 * (n.toNat - 1)), bitc := 8
          waits := s.waits + (19 + 24 * n.toNat + 2 * (n.toNat - 1) + 2 * nackExtra s.finalNack n)
          buf := t.buf } ∧
      (∀ x : Byte, bufByte t x = if x < n then sampledByte s (1 + 8 * x.toNat) else bufByte s x)) ∧
    instrTrace (.read a n) s =
      startTrace ++ writeByteTrace (ctrlByte a true) ++ readCell (answerAt s 0) ++ readBlockTrace s n.toNat ++
        (if s.finalNack = true ∧ n ≠ 0#8 then writeCell true else []) ++ stopTrace ∧
    encode (.read a n) = .command (0x20000#20 ||| (a.setWidth 20 <<< 8) ||| n.setWidth 20)

/-- R168: `WRITE_BLOCK 0` has an empty trace, touches neither BUF nor any flag but `SEQ_ERR`, and completes in its acceptance
step; `WRITE addr, 0` and `READ addr, 0` are the 53-action frames. -/
def Obligations.ZeroLengthCommands : Prop :=
  ∀ (a : SlaveAddr) (s : State) (ms : List Move),
    s.rst = false → s.order = none → s.busy = false → s.moves = .present 0x40000#20 :: ms →
      (∃ t, step s = .next t ∧ t.busy = false ∧ t.todo = [] ∧ t.buf = s.buf ∧ t.sclOut = s.sclOut ∧
        t.sdaOut = s.sdaOut ∧ t.txn = s.txn ∧ t.ackf = s.ackf ∧ t.nak = s.nak ∧ t.illCmd = s.illCmd ∧
        t.seqErr = (s.seqErr || !decide (s.txn = .writeOpen))) ∧
      instrTrace (.writeBlock 0#8) s = [] ∧
      instrTrace (.write a 0#8) s =
        startTrace ++ writeByteTrace (ctrlByte a false) ++ readCell (answerAt s 0) ++ stopTrace ∧
      instrTrace (.read a 0#8) s =
        startTrace ++ writeByteTrace (ctrlByte a true) ++ readCell (answerAt s 0) ++ stopTrace ∧
      (instrTrace (.write a 0#8) s).length = 53 ∧ (instrTrace (.read a 0#8) s).length = 53

/-- R169: `FINAL_NACK` adds one `write_nack` after the last byte of a `READ` with `N` not 0, just before the stop: 5 actions,
2 of them waits; nothing else depends on it, `READ` with `N = 0` included. The default is `false`. -/
def Obligations.FinalNackOnlyAddsOneSlotToRead : Prop :=
  State.reset.finalNack = false ∧
  (∀ (a : SlaveAddr) (n : Byte) (s : State), n ≠ 0#8 →
    ∃ front,
      instrTrace (.read a n) { s with finalNack := false } = front ++ stopTrace ∧
      instrTrace (.read a n) { s with finalNack := true } = front ++ writeCell true ++ stopTrace ∧
      (writeCell true).length = 5 ∧ (writeCell true).count .wait = 2) ∧
  (∀ (i : Instr) (s : State) (fn : Bool), (∀ a n, i = .read a n → n = 0#8) →
    instrTrace i { s with finalNack := fn } = instrTrace i s ∧
      ∀ t, exec i s = .next t → exec i { s with finalNack := fn } = .next { t with finalNack := fn })

/-- R166: the precondition check raises `SEQ_ERR` exactly when `TXN` is not the value the table requires, and has no other
effect: the command's trace and its next state, `SEQ_ERR` apart, do not depend on the check. -/
def Obligations.PreconditionCheckOnlyRaisesSeqErr : Prop :=
  (headerOf (.writeEnd) = some ⟨0x5#4, 0#7, 0#8, .writeOpen⟩ ∧
    (∀ a, (headerOf (.writeBegin a)).map Header.pre = some .idle) ∧
    (∀ n, (headerOf (.writeBlock n)).map Header.pre = some .writeOpen) ∧
    (∀ a n, (headerOf (.write a n)).map Header.pre = some .idle) ∧
    (∀ a n, (headerOf (.read a n)).map Header.pre = some .idle)) ∧
  (∀ (i : Instr) (h : Header) (s : State), headerOf i = some h →
    ∃ t, exec i s = .next t ∧ t.seqErr = (s.seqErr || !decide (s.txn = h.pre)) ∧
      ∀ x : Txn, instrTrace i { s with txn := x } = instrTrace i s ∧
        ∃ t', exec i { s with txn := x } = .next t' ∧
          { t' with seqErr := t.seqErr, txn := t.txn } = t)

/-- R167: the step in which each command updates `TXN`: `WRITE_BEGIN` in its last (42nd), `WRITE` in its 42nd and its last,
`WRITE_END` and `READ` in their last, `WRITE_BLOCK` never; until then it keeps the value it had. -/
def Obligations.TxnChangesInTheStepsOfR167 : Prop :=
  ∀ (s : State) (a : SlaveAddr) (n : Byte) (j : Nat),
    (runBlock j (beginCommand (.writeBegin a) s)).txn = (if j < 42 then s.txn else .writeOpen) ∧
    (runBlock j (beginCommand (.writeBlock n) s)).txn = s.txn ∧
    (runBlock j (beginCommand .writeEnd s)).txn = (if j < 11 then s.txn else .idle) ∧
    (runBlock j (beginCommand (.write a n) s)).txn =
      (if j < 42 then s.txn else if j < 53 + 47 * n.toNat then .writeOpen else .idle) ∧
    (runBlock j (beginCommand (.read a n) s)).txn =
      (if j < actionCount s.finalNack (.read a n) then s.txn else .idle)

/-- The steps in which a running command changes ACKF and NAK (R45, R198): NAK falls with the first action of `write_start`;
both take an acknowledge-read slot's result in the step of that slot's last action, and keep their values in between. `j` is
the number of the block's steps since acceptance. -/
def Obligations.AckFlagsChangeInTheStepsOfR45 : Prop :=
  ∀ (i : Instr) (h : Header) (s : State) (j : Nat), headerOf i = some h →
    (runBlock j (beginCommand i s)).ackf =
        (if slotsEnded i j = 0 then s.ackf else !answerAt s (slotsEnded i j - 1)) ∧
      (runBlock j (beginCommand i s)).nak =
        ((s.nak && !(sendsStart i && decide (0 < j))) || anySample s (slotsEnded i j))

/-- The steps in which a running command changes BUF (20_memory.md section 1): `READ` stores each byte once, in the step of
the last action of its `read_byte` (log 18), the first in step 105, each further one 61 steps later; no other command changes
BUF in any step. -/
def Obligations.BufChangesInTheStepsThatEndAByteRead : Prop :=
  (∀ (a : SlaveAddr) (n x : Byte) (s : State) (j : Nat),
    bufByte (runBlock j (beginCommand (.read a n) s)) x =
      if x < n ∧ 105 + 61 * x.toNat ≤ j then sampledByte s (1 + 8 * x.toNat) else bufByte s x) ∧
  ∀ (i : Instr) (h : Header) (s : State) (j : Nat), headerOf i = some h → (∀ a n, i ≠ .read a n) →
    (runBlock j (beginCommand i s)).buf = s.buf

/-- Lengths (42_transactions.md section 3, the table the spec marks derived; 40_signal_primitives.md section 5 for the
signal primitives, 41_byte_serializer.md for the byte serializer): actions, waits and samples of every operation, and the
longest command. -/
def Obligations.LengthsOfEveryOperation : Prop :=
  (∀ (i : Instr) (s : State),
    (instrTrace i s).length = actionCount s.finalNack i ∧
      (instrTrace i s).count .wait = waitCount s.finalNack i ∧
      ((instrTrace i s).filter fun e => decide (skeleton e = .sample false)).length = sampleCount i) ∧
  (∀ (i : Instr) (fn : Bool), actionCount fn i ≤ if fn then 15608 else 15603) ∧
  (∀ a, actionCount false (.read a 255#8) = 15603 ∧ actionCount true (.read a 255#8) = 15608)

/-- The last three columns of the same table for the commands: clock pulses that are bits (the one inside a stop condition
is none), loads from BUF and stores to BUF. -/
def Obligations.BitsLoadsAndStoresOfEveryCommand : Prop :=
  ∀ (i : Instr) (s : State), i.isCommand = true →
    (instrTrace i s).count (.scl true) = bitPulses s.finalNack i + stopPulses i ∧
      (scriptOf s.finalNack i).count (.upd (.shrLoad .bufAtI)) = bufLoads i ∧
      (scriptOf s.finalNack i).count (.upd .bufStore) = bufStores i

/-- Lower bounds of time (70_reset_and_hazards.md section 4): every operation lasts at least its number of waits times
`T_HALF`; for example `WRITE a, 3` at least `76 T_HALF` and `READ a, 2` at least `69 T_HALF`. That waits are counted is the
model's choice (log 8). -/
def Obligations.OperationsLastAtLeastTheirWaits : Prop :=
  (∀ (i : Instr) (s t : State), exec i s = .next t →
    leastElapsed t = leastElapsed s + waitCount s.finalNack i * Config.tHalf) ∧
  (∀ a, waitCount false (.write a 3#8) = 76 ∧ waitCount false (.read a 2#8) = 69)

/-- R102: the trace of `WRITE addr, n` is the concatenation of the traces of `WRITE_BEGIN addr`, `WRITE_BLOCK n`, `WRITE_END`
issued in that order with the same BUF; and both ways leave the same state but for the command latch and `K`, which are
dead between commands. -/
def Obligations.WriteIsBeginBlockEnd : Prop :=
  ∀ (a : SlaveAddr) (n : Byte) (s : State), s.busy = false →
    ∃ s₁ s₂ s₃ t,
      exec (.writeBegin a) s = .next s₁ ∧ exec (.writeBlock n) s₁ = .next s₂ ∧ exec .writeEnd s₂ = .next s₃ ∧
      exec (.write a n) s = .next t ∧
      instrTrace (.write a n) s =
        instrTrace (.writeBegin a) s ++ instrTrace (.writeBlock n) s₁ ++ instrTrace .writeEnd s₂ ∧
      t = { s₃ with opr := t.opr, addrr := t.addrr, nr := t.nr, k := t.k }

/-- No sampled value decides what the block does next (42_transactions.md section 4): two runs of a command with the same
`FINAL_NACK` and, for a writing command, the same `BUF[0..N-1]` have the same actions and output values, whatever else
their states and environments hold. -/
def Obligations.SamplesDecideNoAction : Prop :=
  ∀ (i : Instr) (h : Header) (s s' : State), headerOf i = some h → s.finalNack = s'.finalNack →
    ((∀ a n, i ≠ .read a n) → ∀ x, x < h.n → bufByte s x = bufByte s' x) →
      (instrTrace i s).map skeleton = (instrTrace i s').map skeleton

/-- The frame of `WRITE addr, n` on the bus, as the recorder of 95_test_vectors.md section 2 sees it from an idle bus (band2
§8; 42_transactions.md section 3): one start, the address byte, the payload bytes in order with the acknowledge sampled
before each, one more acknowledge, one stop, and nothing pending. -/
def Obligations.WriteFrameOnTheBus : Prop :=
  ∀ (a : SlaveAddr) (n : Byte) (s : State),
    recordAll recorderIdle (instrTrace (.write a n) s) =
      (recorderIdle,
        [Mark.start] ++ byteMarks (ctrlByte a false) ++
          ((List.range n.toNat).flatMap fun j =>
            Mark.bit (answerAt s j) :: byteMarks (bufByte s (BitVec.ofNat 8 j))) ++
          [Mark.bit (answerAt s n.toNat), Mark.stop])

/-- The frame of `READ addr, n` on the bus as the recorder sees it from an idle bus (band2 §8; 42_transactions.md section 3):
one start, the address byte, one acknowledge, the bytes with an acknowledge 0 between them, a 1 at the end where
`FINAL_NACK` asks for it, one stop. -/
def Obligations.ReadFrameOnTheBus : Prop :=
  ∀ (a : SlaveAddr) (n : Byte) (s : State),
    recordAll recorderIdle (instrTrace (.read a n) s) =
      (recorderIdle,
        [Mark.start] ++ byteMarks (ctrlByte a true) ++ [Mark.bit (answerAt s 0)] ++
          ((List.range n.toNat).flatMap fun j =>
            (if j = 0 then [] else [Mark.bit false]) ++ byteMarks (sampledByte s (1 + 8 * j))) ++
          (if s.finalNack = true ∧ n ≠ 0#8 then [Mark.bit true] else []) ++ [Mark.stop])

/-! The machine -/

/-- What the block does action by action is what `exec` does at once: from an accepted command, as many steps as it has
actions reach the state `exec` answers (R31, R98; the two ways of issuing a command are the model's choice, log 1). -/
def Obligations.BlockStepsDoWhatExecDoes : Prop :=
  ∀ (s : State) (w : CmdWord) (i : Instr),
    s.rst = false → s.order = none → s.moves = [.present w] → s.busy = false → decodeCommand w = .ok i →
      ∃ t, exec i { s with moves := [] } = .next t ∧
        core.run (1 + actionCount s.finalNack i) s = .next t ∧
        blockTrace (actionCount s.finalNack i) (beginCommand i { s with moves := [] }) =
          instrTrace i { s with moves := [] }

/-- `BUSY` is 1 from acceptance until the step of the last action, and `K` counts the actions performed (R25, R31, R98). -/
def Obligations.BusyUntilTheLastAction : Prop :=
  ∀ (i : Instr) (h : Header) (s : State) (j : Nat), headerOf i = some h → j ≤ actionCount s.finalNack i →
    (runBlock j (beginCommand i s)).busy = decide (j < actionCount s.finalNack i) ∧
      (runBlock j (beginCommand i s)).k = BitVec.ofNat 14 j

/-- The invariant holds right after reset. -/
def Obligations.InvariantHoldsAtReset : Prop := Inv State.reset

/-- Every step keeps the invariant: BUF in canonical form, `BUSY` exactly while actions remain, every step of the block an
action, and the lines at rest when the running command ends. -/
def Obligations.EveryStepKeepsTheInvariant : Prop :=
  ∀ s t : State, Inv s → step s = .next t → Inv t

/-- The idle invariant of the line state (10_state.md section 1, marked derived there): in every state of the invariant, with
`BUSY = 0`, `TXN = IDLE` and `SEQ_ERR = 0` both outputs are released; between commands the clock output always is; and so
both are in every good final state. -/
def Obligations.LinesAreReleasedBetweenTransactions : Prop :=
  ∀ s : State, Inv s →
    (s.busy = false → s.sclOut = true ∧
      (s.txn = .idle → s.seqErr = false → s.sdaOut = true)) ∧
    (goodFinal s = true → s.sclOut = true ∧ s.sdaOut = true)

/-- The run has ended exactly when the host has no further step and `BUSY = 0`, whatever the environment still does; the
final state is good exactly when `TXN`, `SEQ_ERR` and `ILL_CMD` are 0 too, whatever `NAK` is; and then both outputs are 1 in
every state of the invariant (70_reset_and_hazards.md section 5; letting `rst` go low counts as a step of the host, log 11). -/
def Obligations.RunEndsWhenTheHostHasNoFurtherStep : Prop :=
  ∀ s : State,
    (runEnded s = true ↔ s.busy = false ∧ ∀ m ∈ s.moves, (∃ c d, m = .envMove c d) ∨ m = .pass) ∧
    (goodFinal s = true ↔ runEnded s = true ∧ s.txn = .idle ∧ s.seqErr = false ∧ s.illCmd = false) ∧
    (∀ x, goodFinal { s with nak := x } = goodFinal s) ∧
    (Inv s → goodFinal s = true → s.sclOut = true ∧ s.sdaOut = true)

/-- While `rst = 0` no step of any agent clears `SEQ_ERR` or `ILL_CMD`, raises `rst` or leaves a word on the order port; no
step at all writes `FINAL_NACK` (R28, R29, R199, R246; that the parameter, the order port and `rst` are fields of the state
is the model's choice, logs 7, 2 and 11). -/
def Obligations.StickyFlagsAndParameterStay : Prop :=
  ∀ s t : State, step s = .next t →
    t.finalNack = s.finalNack ∧
    (s.rst = false →
      (s.seqErr = true → t.seqErr = true) ∧ (s.illCmd = true → t.illCmd = true) ∧ t.rst = false ∧ t.order = none)

/-- After a sequence of commands `SEQ_ERR` is 1 exactly when it was 1 before or the sequence is not in the order of
42_transactions.md rule R160 from the value of `TXN` it began in; and `TXN` is then what the state machine says. -/
def Obligations.SeqErrTellsTheOrderOfCommands : Prop :=
  ∀ (is : List Instr) (s : State), (∀ i ∈ is, i.isCommand = true) →
    ∃ t, execAll is s = .next t ∧ t.seqErr = (s.seqErr || !legalOrder s.txn is) ∧
      t.txn = is.foldl (fun x i => txnAfter i x) s.txn

/-- The block never accesses `BUF[255]`, and no command but `READ` writes BUF at all (20_memory.md rules R60, R61): the byte
stays as it is, and an operation started with another byte there does the same actions and leaves the same state but for
that byte. -/
def Obligations.BlockNeverTouchesTheLastByteOfBuf : Prop :=
  ∀ (i : Instr) (s t : State), exec i s = .next t →
    bufByte t 255#8 = bufByte s 255#8 ∧ ((∀ a n, i ≠ .read a n) → t.buf = s.buf) ∧
      ∀ v : Byte, instrTrace i (bufSet 255#8 v s) = instrTrace i s ∧
        ∃ t', exec i (bufSet 255#8 v s) = .next t' ∧ t' = { t with buf := t'.buf } ∧
          ∀ a, bufByte t' a = if a = 255#8 then v else bufByte t a

/-- A byte read after a write is the byte written and every other byte is unchanged, in every state (20_memory.md rule
R63). -/
def Obligations.BufReadsAfterWrites : Prop :=
  ∀ (s : State) (a v : Byte),
    bufByte (bufSet a v s) a = v ∧ ∀ a', a' ≠ a → bufByte (bufSet a v s) a' = bufByte s a'
end

