-- ==== Sys2Proof/Laws/Fields.lean ====
section
/-! SUPPORT. The fields of command words and order words: reading a field of a word put together from fields, and putting
a word together from its fields (spec/30_encoding.md rules R90, R99). -/

namespace Sys2Proof

theorem fieldN_commandWord (op : BitVec 4) (a : SlaveAddr) (n : Byte) : fieldN (commandWord op a n) = n := by
  ext j hj
  simp only [fieldN, commandWord, BitVec.getElem_extractLsb', BitVec.getLsbD_append]
  simp [hj]

theorem fieldAddr_commandWord (op : BitVec 4) (a : SlaveAddr) (n : Byte) : fieldAddr (commandWord op a n) = a := by
  ext j hj
  simp only [fieldAddr, commandWord, BitVec.getElem_extractLsb', BitVec.getLsbD_append]
  simp [hj]

theorem fieldZ_commandWord (op : BitVec 4) (a : SlaveAddr) (n : Byte) : fieldZ (commandWord op a n) = false := by
  simp only [fieldZ, commandWord, BitVec.getLsbD_append]
  simp

theorem fieldOp_commandWord (op : BitVec 4) (a : SlaveAddr) (n : Byte) : fieldOp (commandWord op a n) = op := by
  ext j hj
  simp only [fieldOp, commandWord, BitVec.getElem_extractLsb', BitVec.getLsbD_append]
  have h : ¬ 16 + j - 8 - 7 < 1 := by omega
  have h' : 16 + j - 8 - 7 - 1 = j := by omega
  simp [h, h', show ¬ 16 + j < 8 by omega, show ¬ 16 + j - 8 < 7 by omega, BitVec.getLsbD_eq_getElem hj]

/-- A command word with `Z = 0` is put together from its three other fields. -/
theorem commandWord_fields (w : CmdWord) (h : fieldZ w = false) :
    commandWord (fieldOp w) (fieldAddr w) (fieldN w) = w := by
  apply BitVec.eq_of_getLsbD_eq
  intro j hj
  simp only [commandWord, fieldOp, fieldAddr, fieldN, BitVec.getLsbD_append, BitVec.getLsbD_extractLsb']
  by_cases h8 : j < 8
  · simp [h8]
  · by_cases h15 : j - 8 < 7
    · simp [h8, h15, show 8 + (j - 8) = j by omega]
    · by_cases h16 : j = 15
      · subst h16
        simpa [fieldZ] using h.symm
      · simp [h8, h15, show ¬ j - 8 - 7 < 1 by omega, show j - 8 - 7 - 1 < 4 by omega,
          show 16 + (j - 8 - 7 - 1) = j by omega]

theorem fieldArg_orderWord (u : BitVec 4) (x : Byte) : fieldArg (orderWord u x) = x := by
  ext j hj
  simp only [fieldArg, orderWord, BitVec.getElem_extractLsb', BitVec.getLsbD_append]
  simp [hj]

theorem fieldUop_orderWord (u : BitVec 4) (x : Byte) : fieldUop (orderWord u x) = u := by
  ext j hj
  simp only [fieldUop, orderWord, BitVec.getElem_extractLsb', BitVec.getLsbD_append]
  simp [hj, show ¬ 8 + j < 8 by omega]

/-- An order word is put together from its two fields. -/
theorem orderWord_fields (w : OrdWord) : orderWord (fieldUop w) (fieldArg w) = w := by
  apply BitVec.eq_of_getLsbD_eq
  intro j hj
  simp only [orderWord, fieldUop, fieldArg, BitVec.getLsbD_append, BitVec.getLsbD_extractLsb']
  by_cases h8 : j < 8
  · simp [h8]
  · simp [h8, show j - 8 < 4 by omega, show 8 + (j - 8) = j by omega]

end Sys2Proof
end

