-- ==== Sys2Proof/Laws/State.lean ====
section
/-! SUPPORT. One lemma per field per named update of State, each true by definition, so that no later proof unfolds a
record update. -/

namespace Sys2Proof.Machine

variable (s : State)

/-! driveScl -/

@[simp] theorem driveScl_sclOut (v : Bool) : (driveScl v s).sclOut = v := rfl
@[simp] theorem driveScl_sdaOut (v : Bool) : (driveScl v s).sdaOut = s.sdaOut := rfl
@[simp] theorem driveScl_txn (v : Bool) : (driveScl v s).txn = s.txn := rfl
@[simp] theorem driveScl_busy (v : Bool) : (driveScl v s).busy = s.busy := rfl
@[simp] theorem driveScl_ackf (v : Bool) : (driveScl v s).ackf = s.ackf := rfl
@[simp] theorem driveScl_nak (v : Bool) : (driveScl v s).nak = s.nak := rfl
@[simp] theorem driveScl_seqErr (v : Bool) : (driveScl v s).seqErr = s.seqErr := rfl
@[simp] theorem driveScl_illCmd (v : Bool) : (driveScl v s).illCmd = s.illCmd := rfl
@[simp] theorem driveScl_k (v : Bool) : (driveScl v s).k = s.k := rfl
@[simp] theorem driveScl_opr (v : Bool) : (driveScl v s).opr = s.opr := rfl
@[simp] theorem driveScl_addrr (v : Bool) : (driveScl v s).addrr = s.addrr := rfl
@[simp] theorem driveScl_nr (v : Bool) : (driveScl v s).nr = s.nr := rfl
@[simp] theorem driveScl_i (v : Bool) : (driveScl v s).i = s.i := rfl
@[simp] theorem driveScl_shr (v : Bool) : (driveScl v s).shr = s.shr := rfl
@[simp] theorem driveScl_bitc (v : Bool) : (driveScl v s).bitc = s.bitc := rfl
@[simp] theorem driveScl_smp (v : Bool) : (driveScl v s).smp = s.smp := rfl
@[simp] theorem driveScl_todo (v : Bool) : (driveScl v s).todo = s.todo := rfl
@[simp] theorem driveScl_buf (v : Bool) : (driveScl v s).buf = s.buf := rfl
@[simp] theorem driveScl_rst (v : Bool) : (driveScl v s).rst = s.rst := rfl
@[simp] theorem driveScl_order (v : Bool) : (driveScl v s).order = s.order := rfl
@[simp] theorem driveScl_moves (v : Bool) : (driveScl v s).moves = s.moves := rfl
@[simp] theorem driveScl_bufRdata (v : Bool) : (driveScl v s).bufRdata = s.bufRdata := rfl
@[simp] theorem driveScl_statusRead (v : Bool) : (driveScl v s).statusRead = s.statusRead := rfl
@[simp] theorem driveScl_envScl (v : Bool) : (driveScl v s).envScl = s.envScl := rfl
@[simp] theorem driveScl_envSda (v : Bool) : (driveScl v s).envSda = s.envSda := rfl
@[simp] theorem driveScl_answers (v : Bool) : (driveScl v s).answers = s.answers := rfl
@[simp] theorem driveScl_samples (v : Bool) : (driveScl v s).samples = s.samples := rfl
@[simp] theorem driveScl_waits (v : Bool) : (driveScl v s).waits = s.waits := rfl
@[simp] theorem driveScl_finalNack (v : Bool) : (driveScl v s).finalNack = s.finalNack := rfl

/-! driveSda -/

@[simp] theorem driveSda_sclOut (v : Bool) : (driveSda v s).sclOut = s.sclOut := rfl
@[simp] theorem driveSda_sdaOut (v : Bool) : (driveSda v s).sdaOut = v := rfl
@[simp] theorem driveSda_txn (v : Bool) : (driveSda v s).txn = s.txn := rfl
@[simp] theorem driveSda_busy (v : Bool) : (driveSda v s).busy = s.busy := rfl
@[simp] theorem driveSda_ackf (v : Bool) : (driveSda v s).ackf = s.ackf := rfl
@[simp] theorem driveSda_nak (v : Bool) : (driveSda v s).nak = s.nak := rfl
@[simp] theorem driveSda_seqErr (v : Bool) : (driveSda v s).seqErr = s.seqErr := rfl
@[simp] theorem driveSda_illCmd (v : Bool) : (driveSda v s).illCmd = s.illCmd := rfl
@[simp] theorem driveSda_k (v : Bool) : (driveSda v s).k = s.k := rfl
@[simp] theorem driveSda_opr (v : Bool) : (driveSda v s).opr = s.opr := rfl
@[simp] theorem driveSda_addrr (v : Bool) : (driveSda v s).addrr = s.addrr := rfl
@[simp] theorem driveSda_nr (v : Bool) : (driveSda v s).nr = s.nr := rfl
@[simp] theorem driveSda_i (v : Bool) : (driveSda v s).i = s.i := rfl
@[simp] theorem driveSda_shr (v : Bool) : (driveSda v s).shr = s.shr := rfl
@[simp] theorem driveSda_bitc (v : Bool) : (driveSda v s).bitc = s.bitc := rfl
@[simp] theorem driveSda_smp (v : Bool) : (driveSda v s).smp = s.smp := rfl
@[simp] theorem driveSda_todo (v : Bool) : (driveSda v s).todo = s.todo := rfl
@[simp] theorem driveSda_buf (v : Bool) : (driveSda v s).buf = s.buf := rfl
@[simp] theorem driveSda_rst (v : Bool) : (driveSda v s).rst = s.rst := rfl
@[simp] theorem driveSda_order (v : Bool) : (driveSda v s).order = s.order := rfl
@[simp] theorem driveSda_moves (v : Bool) : (driveSda v s).moves = s.moves := rfl
@[simp] theorem driveSda_bufRdata (v : Bool) : (driveSda v s).bufRdata = s.bufRdata := rfl
@[simp] theorem driveSda_statusRead (v : Bool) : (driveSda v s).statusRead = s.statusRead := rfl
@[simp] theorem driveSda_envScl (v : Bool) : (driveSda v s).envScl = s.envScl := rfl
@[simp] theorem driveSda_envSda (v : Bool) : (driveSda v s).envSda = s.envSda := rfl
@[simp] theorem driveSda_answers (v : Bool) : (driveSda v s).answers = s.answers := rfl
@[simp] theorem driveSda_samples (v : Bool) : (driveSda v s).samples = s.samples := rfl
@[simp] theorem driveSda_waits (v : Bool) : (driveSda v s).waits = s.waits := rfl
@[simp] theorem driveSda_finalNack (v : Bool) : (driveSda v s).finalNack = s.finalNack := rfl

/-! halfPeriod -/

@[simp] theorem halfPeriod_sclOut : (halfPeriod s).sclOut = s.sclOut := rfl
@[simp] theorem halfPeriod_sdaOut : (halfPeriod s).sdaOut = s.sdaOut := rfl
@[simp] theorem halfPeriod_txn : (halfPeriod s).txn = s.txn := rfl
@[simp] theorem halfPeriod_busy : (halfPeriod s).busy = s.busy := rfl
@[simp] theorem halfPeriod_ackf : (halfPeriod s).ackf = s.ackf := rfl
@[simp] theorem halfPeriod_nak : (halfPeriod s).nak = s.nak := rfl
@[simp] theorem halfPeriod_seqErr : (halfPeriod s).seqErr = s.seqErr := rfl
@[simp] theorem halfPeriod_illCmd : (halfPeriod s).illCmd = s.illCmd := rfl
@[simp] theorem halfPeriod_k : (halfPeriod s).k = s.k := rfl
@[simp] theorem halfPeriod_opr : (halfPeriod s).opr = s.opr := rfl
@[simp] theorem halfPeriod_addrr : (halfPeriod s).addrr = s.addrr := rfl
@[simp] theorem halfPeriod_nr : (halfPeriod s).nr = s.nr := rfl
@[simp] theorem halfPeriod_i : (halfPeriod s).i = s.i := rfl
@[simp] theorem halfPeriod_shr : (halfPeriod s).shr = s.shr := rfl
@[simp] theorem halfPeriod_bitc : (halfPeriod s).bitc = s.bitc := rfl
@[simp] theorem halfPeriod_smp : (halfPeriod s).smp = s.smp := rfl
@[simp] theorem halfPeriod_todo : (halfPeriod s).todo = s.todo := rfl
@[simp] theorem halfPeriod_buf : (halfPeriod s).buf = s.buf := rfl
@[simp] theorem halfPeriod_rst : (halfPeriod s).rst = s.rst := rfl
@[simp] theorem halfPeriod_order : (halfPeriod s).order = s.order := rfl
@[simp] theorem halfPeriod_moves : (halfPeriod s).moves = s.moves := rfl
@[simp] theorem halfPeriod_bufRdata : (halfPeriod s).bufRdata = s.bufRdata := rfl
@[simp] theorem halfPeriod_statusRead : (halfPeriod s).statusRead = s.statusRead := rfl
@[simp] theorem halfPeriod_envScl : (halfPeriod s).envScl = s.envScl := rfl
@[simp] theorem halfPeriod_envSda : (halfPeriod s).envSda = s.envSda := rfl
@[simp] theorem halfPeriod_answers : (halfPeriod s).answers = s.answers := rfl
@[simp] theorem halfPeriod_samples : (halfPeriod s).samples = s.samples := rfl
@[simp] theorem halfPeriod_waits : (halfPeriod s).waits = s.waits + 1 := rfl
@[simp] theorem halfPeriod_finalNack : (halfPeriod s).finalNack = s.finalNack := rfl

/-! sampleSda -/

@[simp] theorem sampleSda_sclOut : (sampleSda s).sclOut = s.sclOut := rfl
@[simp] theorem sampleSda_sdaOut : (sampleSda s).sdaOut = s.sdaOut := rfl
@[simp] theorem sampleSda_txn : (sampleSda s).txn = s.txn := rfl
@[simp] theorem sampleSda_busy : (sampleSda s).busy = s.busy := rfl
@[simp] theorem sampleSda_ackf : (sampleSda s).ackf = s.ackf := rfl
@[simp] theorem sampleSda_nak : (sampleSda s).nak = s.nak := rfl
@[simp] theorem sampleSda_seqErr : (sampleSda s).seqErr = s.seqErr := rfl
@[simp] theorem sampleSda_illCmd : (sampleSda s).illCmd = s.illCmd := rfl
@[simp] theorem sampleSda_k : (sampleSda s).k = s.k := rfl
@[simp] theorem sampleSda_opr : (sampleSda s).opr = s.opr := rfl
@[simp] theorem sampleSda_addrr : (sampleSda s).addrr = s.addrr := rfl
@[simp] theorem sampleSda_nr : (sampleSda s).nr = s.nr := rfl
@[simp] theorem sampleSda_i : (sampleSda s).i = s.i := rfl
@[simp] theorem sampleSda_shr : (sampleSda s).shr = s.shr := rfl
@[simp] theorem sampleSda_bitc : (sampleSda s).bitc = s.bitc := rfl
@[simp] theorem sampleSda_smp : (sampleSda s).smp = (s.sdaOut && answerAt s 0) := rfl
@[simp] theorem sampleSda_todo : (sampleSda s).todo = s.todo := rfl
@[simp] theorem sampleSda_buf : (sampleSda s).buf = s.buf := rfl
@[simp] theorem sampleSda_rst : (sampleSda s).rst = s.rst := rfl
@[simp] theorem sampleSda_order : (sampleSda s).order = s.order := rfl
@[simp] theorem sampleSda_moves : (sampleSda s).moves = s.moves := rfl
@[simp] theorem sampleSda_bufRdata : (sampleSda s).bufRdata = s.bufRdata := rfl
@[simp] theorem sampleSda_statusRead : (sampleSda s).statusRead = s.statusRead := rfl
@[simp] theorem sampleSda_envScl : (sampleSda s).envScl = s.envScl := rfl
@[simp] theorem sampleSda_envSda : (sampleSda s).envSda = answerAt s 0 := rfl
@[simp] theorem sampleSda_answers : (sampleSda s).answers = s.answers.tail := rfl
@[simp] theorem sampleSda_samples : (sampleSda s).samples = s.samples + 1 := rfl
@[simp] theorem sampleSda_waits : (sampleSda s).waits = s.waits := rfl
@[simp] theorem sampleSda_finalNack : (sampleSda s).finalNack = s.finalNack := rfl

/-! envChange -/

@[simp] theorem envChange_sclOut (c d : Bool) : (envChange c d s).sclOut = s.sclOut := rfl
@[simp] theorem envChange_sdaOut (c d : Bool) : (envChange c d s).sdaOut = s.sdaOut := rfl
@[simp] theorem envChange_txn (c d : Bool) : (envChange c d s).txn = s.txn := rfl
@[simp] theorem envChange_busy (c d : Bool) : (envChange c d s).busy = s.busy := rfl
@[simp] theorem envChange_ackf (c d : Bool) : (envChange c d s).ackf = s.ackf := rfl
@[simp] theorem envChange_nak (c d : Bool) : (envChange c d s).nak = s.nak := rfl
@[simp] theorem envChange_seqErr (c d : Bool) : (envChange c d s).seqErr = s.seqErr := rfl
@[simp] theorem envChange_illCmd (c d : Bool) : (envChange c d s).illCmd = s.illCmd := rfl
@[simp] theorem envChange_k (c d : Bool) : (envChange c d s).k = s.k := rfl
@[simp] theorem envChange_opr (c d : Bool) : (envChange c d s).opr = s.opr := rfl
@[simp] theorem envChange_addrr (c d : Bool) : (envChange c d s).addrr = s.addrr := rfl
@[simp] theorem envChange_nr (c d : Bool) : (envChange c d s).nr = s.nr := rfl
@[simp] theorem envChange_i (c d : Bool) : (envChange c d s).i = s.i := rfl
@[simp] theorem envChange_shr (c d : Bool) : (envChange c d s).shr = s.shr := rfl
@[simp] theorem envChange_bitc (c d : Bool) : (envChange c d s).bitc = s.bitc := rfl
@[simp] theorem envChange_smp (c d : Bool) : (envChange c d s).smp = s.smp := rfl
@[simp] theorem envChange_todo (c d : Bool) : (envChange c d s).todo = s.todo := rfl
@[simp] theorem envChange_buf (c d : Bool) : (envChange c d s).buf = s.buf := rfl
@[simp] theorem envChange_rst (c d : Bool) : (envChange c d s).rst = s.rst := rfl
@[simp] theorem envChange_order (c d : Bool) : (envChange c d s).order = s.order := rfl
@[simp] theorem envChange_moves (c d : Bool) : (envChange c d s).moves = s.moves := rfl
@[simp] theorem envChange_bufRdata (c d : Bool) : (envChange c d s).bufRdata = s.bufRdata := rfl
@[simp] theorem envChange_statusRead (c d : Bool) : (envChange c d s).statusRead = s.statusRead := rfl
@[simp] theorem envChange_envScl (c d : Bool) : (envChange c d s).envScl = c := rfl
@[simp] theorem envChange_envSda (c d : Bool) : (envChange c d s).envSda = d := rfl
@[simp] theorem envChange_answers (c d : Bool) : (envChange c d s).answers = s.answers := rfl
@[simp] theorem envChange_samples (c d : Bool) : (envChange c d s).samples = s.samples := rfl
@[simp] theorem envChange_waits (c d : Bool) : (envChange c d s).waits = s.waits := rfl
@[simp] theorem envChange_finalNack (c d : Bool) : (envChange c d s).finalNack = s.finalNack := rfl

/-! bufSet -/

@[simp] theorem bufSet_sclOut (a v : Byte) : (bufSet a v s).sclOut = s.sclOut := rfl
@[simp] theorem bufSet_sdaOut (a v : Byte) : (bufSet a v s).sdaOut = s.sdaOut := rfl
@[simp] theorem bufSet_txn (a v : Byte) : (bufSet a v s).txn = s.txn := rfl
@[simp] theorem bufSet_busy (a v : Byte) : (bufSet a v s).busy = s.busy := rfl
@[simp] theorem bufSet_ackf (a v : Byte) : (bufSet a v s).ackf = s.ackf := rfl
@[simp] theorem bufSet_nak (a v : Byte) : (bufSet a v s).nak = s.nak := rfl
@[simp] theorem bufSet_seqErr (a v : Byte) : (bufSet a v s).seqErr = s.seqErr := rfl
@[simp] theorem bufSet_illCmd (a v : Byte) : (bufSet a v s).illCmd = s.illCmd := rfl
@[simp] theorem bufSet_k (a v : Byte) : (bufSet a v s).k = s.k := rfl
@[simp] theorem bufSet_opr (a v : Byte) : (bufSet a v s).opr = s.opr := rfl
@[simp] theorem bufSet_addrr (a v : Byte) : (bufSet a v s).addrr = s.addrr := rfl
@[simp] theorem bufSet_nr (a v : Byte) : (bufSet a v s).nr = s.nr := rfl
@[simp] theorem bufSet_i (a v : Byte) : (bufSet a v s).i = s.i := rfl
@[simp] theorem bufSet_shr (a v : Byte) : (bufSet a v s).shr = s.shr := rfl
@[simp] theorem bufSet_bitc (a v : Byte) : (bufSet a v s).bitc = s.bitc := rfl
@[simp] theorem bufSet_smp (a v : Byte) : (bufSet a v s).smp = s.smp := rfl
@[simp] theorem bufSet_todo (a v : Byte) : (bufSet a v s).todo = s.todo := rfl
@[simp] theorem bufSet_buf (a v : Byte) : (bufSet a v s).buf = cellStore s.buf a.toNat v := rfl
@[simp] theorem bufSet_rst (a v : Byte) : (bufSet a v s).rst = s.rst := rfl
@[simp] theorem bufSet_order (a v : Byte) : (bufSet a v s).order = s.order := rfl
@[simp] theorem bufSet_moves (a v : Byte) : (bufSet a v s).moves = s.moves := rfl
@[simp] theorem bufSet_bufRdata (a v : Byte) : (bufSet a v s).bufRdata = s.bufRdata := rfl
@[simp] theorem bufSet_statusRead (a v : Byte) : (bufSet a v s).statusRead = s.statusRead := rfl
@[simp] theorem bufSet_envScl (a v : Byte) : (bufSet a v s).envScl = s.envScl := rfl
@[simp] theorem bufSet_envSda (a v : Byte) : (bufSet a v s).envSda = s.envSda := rfl
@[simp] theorem bufSet_answers (a v : Byte) : (bufSet a v s).answers = s.answers := rfl
@[simp] theorem bufSet_samples (a v : Byte) : (bufSet a v s).samples = s.samples := rfl
@[simp] theorem bufSet_waits (a v : Byte) : (bufSet a v s).waits = s.waits := rfl
@[simp] theorem bufSet_finalNack (a v : Byte) : (bufSet a v s).finalNack = s.finalNack := rfl

/-! hostBufRead -/

@[simp] theorem hostBufRead_sclOut (a : Byte) : (hostBufRead a s).sclOut = s.sclOut := rfl
@[simp] theorem hostBufRead_sdaOut (a : Byte) : (hostBufRead a s).sdaOut = s.sdaOut := rfl
@[simp] theorem hostBufRead_txn (a : Byte) : (hostBufRead a s).txn = s.txn := rfl
@[simp] theorem hostBufRead_busy (a : Byte) : (hostBufRead a s).busy = s.busy := rfl
@[simp] theorem hostBufRead_ackf (a : Byte) : (hostBufRead a s).ackf = s.ackf := rfl
@[simp] theorem hostBufRead_nak (a : Byte) : (hostBufRead a s).nak = s.nak := rfl
@[simp] theorem hostBufRead_seqErr (a : Byte) : (hostBufRead a s).seqErr = s.seqErr := rfl
@[simp] theorem hostBufRead_illCmd (a : Byte) : (hostBufRead a s).illCmd = s.illCmd := rfl
@[simp] theorem hostBufRead_k (a : Byte) : (hostBufRead a s).k = s.k := rfl
@[simp] theorem hostBufRead_opr (a : Byte) : (hostBufRead a s).opr = s.opr := rfl
@[simp] theorem hostBufRead_addrr (a : Byte) : (hostBufRead a s).addrr = s.addrr := rfl
@[simp] theorem hostBufRead_nr (a : Byte) : (hostBufRead a s).nr = s.nr := rfl
@[simp] theorem hostBufRead_i (a : Byte) : (hostBufRead a s).i = s.i := rfl
@[simp] theorem hostBufRead_shr (a : Byte) : (hostBufRead a s).shr = s.shr := rfl
@[simp] theorem hostBufRead_bitc (a : Byte) : (hostBufRead a s).bitc = s.bitc := rfl
@[simp] theorem hostBufRead_smp (a : Byte) : (hostBufRead a s).smp = s.smp := rfl
@[simp] theorem hostBufRead_todo (a : Byte) : (hostBufRead a s).todo = s.todo := rfl
@[simp] theorem hostBufRead_buf (a : Byte) : (hostBufRead a s).buf = s.buf := rfl
@[simp] theorem hostBufRead_rst (a : Byte) : (hostBufRead a s).rst = s.rst := rfl
@[simp] theorem hostBufRead_order (a : Byte) : (hostBufRead a s).order = s.order := rfl
@[simp] theorem hostBufRead_moves (a : Byte) : (hostBufRead a s).moves = s.moves := rfl
@[simp] theorem hostBufRead_bufRdata (a : Byte) : (hostBufRead a s).bufRdata = bufByte s a := rfl
@[simp] theorem hostBufRead_statusRead (a : Byte) : (hostBufRead a s).statusRead = s.statusRead := rfl
@[simp] theorem hostBufRead_envScl (a : Byte) : (hostBufRead a s).envScl = s.envScl := rfl
@[simp] theorem hostBufRead_envSda (a : Byte) : (hostBufRead a s).envSda = s.envSda := rfl
@[simp] theorem hostBufRead_answers (a : Byte) : (hostBufRead a s).answers = s.answers := rfl
@[simp] theorem hostBufRead_samples (a : Byte) : (hostBufRead a s).samples = s.samples := rfl
@[simp] theorem hostBufRead_waits (a : Byte) : (hostBufRead a s).waits = s.waits := rfl
@[simp] theorem hostBufRead_finalNack (a : Byte) : (hostBufRead a s).finalNack = s.finalNack := rfl

/-! raiseSeqErr -/

@[simp] theorem raiseSeqErr_sclOut : (raiseSeqErr s).sclOut = s.sclOut := rfl
@[simp] theorem raiseSeqErr_sdaOut : (raiseSeqErr s).sdaOut = s.sdaOut := rfl
@[simp] theorem raiseSeqErr_txn : (raiseSeqErr s).txn = s.txn := rfl
@[simp] theorem raiseSeqErr_busy : (raiseSeqErr s).busy = s.busy := rfl
@[simp] theorem raiseSeqErr_ackf : (raiseSeqErr s).ackf = s.ackf := rfl
@[simp] theorem raiseSeqErr_nak : (raiseSeqErr s).nak = s.nak := rfl
@[simp] theorem raiseSeqErr_seqErr : (raiseSeqErr s).seqErr = true := rfl
@[simp] theorem raiseSeqErr_illCmd : (raiseSeqErr s).illCmd = s.illCmd := rfl
@[simp] theorem raiseSeqErr_k : (raiseSeqErr s).k = s.k := rfl
@[simp] theorem raiseSeqErr_opr : (raiseSeqErr s).opr = s.opr := rfl
@[simp] theorem raiseSeqErr_addrr : (raiseSeqErr s).addrr = s.addrr := rfl
@[simp] theorem raiseSeqErr_nr : (raiseSeqErr s).nr = s.nr := rfl
@[simp] theorem raiseSeqErr_i : (raiseSeqErr s).i = s.i := rfl
@[simp] theorem raiseSeqErr_shr : (raiseSeqErr s).shr = s.shr := rfl
@[simp] theorem raiseSeqErr_bitc : (raiseSeqErr s).bitc = s.bitc := rfl
@[simp] theorem raiseSeqErr_smp : (raiseSeqErr s).smp = s.smp := rfl
@[simp] theorem raiseSeqErr_todo : (raiseSeqErr s).todo = s.todo := rfl
@[simp] theorem raiseSeqErr_buf : (raiseSeqErr s).buf = s.buf := rfl
@[simp] theorem raiseSeqErr_rst : (raiseSeqErr s).rst = s.rst := rfl
@[simp] theorem raiseSeqErr_order : (raiseSeqErr s).order = s.order := rfl
@[simp] theorem raiseSeqErr_moves : (raiseSeqErr s).moves = s.moves := rfl
@[simp] theorem raiseSeqErr_bufRdata : (raiseSeqErr s).bufRdata = s.bufRdata := rfl
@[simp] theorem raiseSeqErr_statusRead : (raiseSeqErr s).statusRead = s.statusRead := rfl
@[simp] theorem raiseSeqErr_envScl : (raiseSeqErr s).envScl = s.envScl := rfl
@[simp] theorem raiseSeqErr_envSda : (raiseSeqErr s).envSda = s.envSda := rfl
@[simp] theorem raiseSeqErr_answers : (raiseSeqErr s).answers = s.answers := rfl
@[simp] theorem raiseSeqErr_samples : (raiseSeqErr s).samples = s.samples := rfl
@[simp] theorem raiseSeqErr_waits : (raiseSeqErr s).waits = s.waits := rfl
@[simp] theorem raiseSeqErr_finalNack : (raiseSeqErr s).finalNack = s.finalNack := rfl

/-! raiseIllCmd -/

@[simp] theorem raiseIllCmd_sclOut : (raiseIllCmd s).sclOut = s.sclOut := rfl
@[simp] theorem raiseIllCmd_sdaOut : (raiseIllCmd s).sdaOut = s.sdaOut := rfl
@[simp] theorem raiseIllCmd_txn : (raiseIllCmd s).txn = s.txn := rfl
@[simp] theorem raiseIllCmd_busy : (raiseIllCmd s).busy = s.busy := rfl
@[simp] theorem raiseIllCmd_ackf : (raiseIllCmd s).ackf = s.ackf := rfl
@[simp] theorem raiseIllCmd_nak : (raiseIllCmd s).nak = s.nak := rfl
@[simp] theorem raiseIllCmd_seqErr : (raiseIllCmd s).seqErr = s.seqErr := rfl
@[simp] theorem raiseIllCmd_illCmd : (raiseIllCmd s).illCmd = true := rfl
@[simp] theorem raiseIllCmd_k : (raiseIllCmd s).k = s.k := rfl
@[simp] theorem raiseIllCmd_opr : (raiseIllCmd s).opr = s.opr := rfl
@[simp] theorem raiseIllCmd_addrr : (raiseIllCmd s).addrr = s.addrr := rfl
@[simp] theorem raiseIllCmd_nr : (raiseIllCmd s).nr = s.nr := rfl
@[simp] theorem raiseIllCmd_i : (raiseIllCmd s).i = s.i := rfl
@[simp] theorem raiseIllCmd_shr : (raiseIllCmd s).shr = s.shr := rfl
@[simp] theorem raiseIllCmd_bitc : (raiseIllCmd s).bitc = s.bitc := rfl
@[simp] theorem raiseIllCmd_smp : (raiseIllCmd s).smp = s.smp := rfl
@[simp] theorem raiseIllCmd_todo : (raiseIllCmd s).todo = s.todo := rfl
@[simp] theorem raiseIllCmd_buf : (raiseIllCmd s).buf = s.buf := rfl
@[simp] theorem raiseIllCmd_rst : (raiseIllCmd s).rst = s.rst := rfl
@[simp] theorem raiseIllCmd_order : (raiseIllCmd s).order = s.order := rfl
@[simp] theorem raiseIllCmd_moves : (raiseIllCmd s).moves = s.moves := rfl
@[simp] theorem raiseIllCmd_bufRdata : (raiseIllCmd s).bufRdata = s.bufRdata := rfl
@[simp] theorem raiseIllCmd_statusRead : (raiseIllCmd s).statusRead = s.statusRead := rfl
@[simp] theorem raiseIllCmd_envScl : (raiseIllCmd s).envScl = s.envScl := rfl
@[simp] theorem raiseIllCmd_envSda : (raiseIllCmd s).envSda = s.envSda := rfl
@[simp] theorem raiseIllCmd_answers : (raiseIllCmd s).answers = s.answers := rfl
@[simp] theorem raiseIllCmd_samples : (raiseIllCmd s).samples = s.samples := rfl
@[simp] theorem raiseIllCmd_waits : (raiseIllCmd s).waits = s.waits := rfl
@[simp] theorem raiseIllCmd_finalNack : (raiseIllCmd s).finalNack = s.finalNack := rfl

/-! clearNak -/

@[simp] theorem clearNak_sclOut : (clearNak s).sclOut = s.sclOut := rfl
@[simp] theorem clearNak_sdaOut : (clearNak s).sdaOut = s.sdaOut := rfl
@[simp] theorem clearNak_txn : (clearNak s).txn = s.txn := rfl
@[simp] theorem clearNak_busy : (clearNak s).busy = s.busy := rfl
@[simp] theorem clearNak_ackf : (clearNak s).ackf = s.ackf := rfl
@[simp] theorem clearNak_nak : (clearNak s).nak = false := rfl
@[simp] theorem clearNak_seqErr : (clearNak s).seqErr = s.seqErr := rfl
@[simp] theorem clearNak_illCmd : (clearNak s).illCmd = s.illCmd := rfl
@[simp] theorem clearNak_k : (clearNak s).k = s.k := rfl
@[simp] theorem clearNak_opr : (clearNak s).opr = s.opr := rfl
@[simp] theorem clearNak_addrr : (clearNak s).addrr = s.addrr := rfl
@[simp] theorem clearNak_nr : (clearNak s).nr = s.nr := rfl
@[simp] theorem clearNak_i : (clearNak s).i = s.i := rfl
@[simp] theorem clearNak_shr : (clearNak s).shr = s.shr := rfl
@[simp] theorem clearNak_bitc : (clearNak s).bitc = s.bitc := rfl
@[simp] theorem clearNak_smp : (clearNak s).smp = s.smp := rfl
@[simp] theorem clearNak_todo : (clearNak s).todo = s.todo := rfl
@[simp] theorem clearNak_buf : (clearNak s).buf = s.buf := rfl
@[simp] theorem clearNak_rst : (clearNak s).rst = s.rst := rfl
@[simp] theorem clearNak_order : (clearNak s).order = s.order := rfl
@[simp] theorem clearNak_moves : (clearNak s).moves = s.moves := rfl
@[simp] theorem clearNak_bufRdata : (clearNak s).bufRdata = s.bufRdata := rfl
@[simp] theorem clearNak_statusRead : (clearNak s).statusRead = s.statusRead := rfl
@[simp] theorem clearNak_envScl : (clearNak s).envScl = s.envScl := rfl
@[simp] theorem clearNak_envSda : (clearNak s).envSda = s.envSda := rfl
@[simp] theorem clearNak_answers : (clearNak s).answers = s.answers := rfl
@[simp] theorem clearNak_samples : (clearNak s).samples = s.samples := rfl
@[simp] theorem clearNak_waits : (clearNak s).waits = s.waits := rfl
@[simp] theorem clearNak_finalNack : (clearNak s).finalNack = s.finalNack := rfl

/-! recordAck -/

@[simp] theorem recordAck_sclOut : (recordAck s).sclOut = s.sclOut := rfl
@[simp] theorem recordAck_sdaOut : (recordAck s).sdaOut = s.sdaOut := rfl
@[simp] theorem recordAck_txn : (recordAck s).txn = s.txn := rfl
@[simp] theorem recordAck_busy : (recordAck s).busy = s.busy := rfl
@[simp] theorem recordAck_ackf : (recordAck s).ackf = (!s.smp) := rfl
@[simp] theorem recordAck_nak : (recordAck s).nak = (s.nak || s.smp) := rfl
@[simp] theorem recordAck_seqErr : (recordAck s).seqErr = s.seqErr := rfl
@[simp] theorem recordAck_illCmd : (recordAck s).illCmd = s.illCmd := rfl
@[simp] theorem recordAck_k : (recordAck s).k = s.k := rfl
@[simp] theorem recordAck_opr : (recordAck s).opr = s.opr := rfl
@[simp] theorem recordAck_addrr : (recordAck s).addrr = s.addrr := rfl
@[simp] theorem recordAck_nr : (recordAck s).nr = s.nr := rfl
@[simp] theorem recordAck_i : (recordAck s).i = s.i := rfl
@[simp] theorem recordAck_shr : (recordAck s).shr = s.shr := rfl
@[simp] theorem recordAck_bitc : (recordAck s).bitc = s.bitc := rfl
@[simp] theorem recordAck_smp : (recordAck s).smp = s.smp := rfl
@[simp] theorem recordAck_todo : (recordAck s).todo = s.todo := rfl
@[simp] theorem recordAck_buf : (recordAck s).buf = s.buf := rfl
@[simp] theorem recordAck_rst : (recordAck s).rst = s.rst := rfl
@[simp] theorem recordAck_order : (recordAck s).order = s.order := rfl
@[simp] theorem recordAck_moves : (recordAck s).moves = s.moves := rfl
@[simp] theorem recordAck_bufRdata : (recordAck s).bufRdata = s.bufRdata := rfl
@[simp] theorem recordAck_statusRead : (recordAck s).statusRead = s.statusRead := rfl
@[simp] theorem recordAck_envScl : (recordAck s).envScl = s.envScl := rfl
@[simp] theorem recordAck_envSda : (recordAck s).envSda = s.envSda := rfl
@[simp] theorem recordAck_answers : (recordAck s).answers = s.answers := rfl
@[simp] theorem recordAck_samples : (recordAck s).samples = s.samples := rfl
@[simp] theorem recordAck_waits : (recordAck s).waits = s.waits := rfl
@[simp] theorem recordAck_finalNack : (recordAck s).finalNack = s.finalNack := rfl

/-! hostReadStatus -/

@[simp] theorem hostReadStatus_sclOut : (hostReadStatus s).sclOut = s.sclOut := rfl
@[simp] theorem hostReadStatus_sdaOut : (hostReadStatus s).sdaOut = s.sdaOut := rfl
@[simp] theorem hostReadStatus_txn : (hostReadStatus s).txn = s.txn := rfl
@[simp] theorem hostReadStatus_busy : (hostReadStatus s).busy = s.busy := rfl
@[simp] theorem hostReadStatus_ackf : (hostReadStatus s).ackf = s.ackf := rfl
@[simp] theorem hostReadStatus_nak : (hostReadStatus s).nak = s.nak := rfl
@[simp] theorem hostReadStatus_seqErr : (hostReadStatus s).seqErr = s.seqErr := rfl
@[simp] theorem hostReadStatus_illCmd : (hostReadStatus s).illCmd = s.illCmd := rfl
@[simp] theorem hostReadStatus_k : (hostReadStatus s).k = s.k := rfl
@[simp] theorem hostReadStatus_opr : (hostReadStatus s).opr = s.opr := rfl
@[simp] theorem hostReadStatus_addrr : (hostReadStatus s).addrr = s.addrr := rfl
@[simp] theorem hostReadStatus_nr : (hostReadStatus s).nr = s.nr := rfl
@[simp] theorem hostReadStatus_i : (hostReadStatus s).i = s.i := rfl
@[simp] theorem hostReadStatus_shr : (hostReadStatus s).shr = s.shr := rfl
@[simp] theorem hostReadStatus_bitc : (hostReadStatus s).bitc = s.bitc := rfl
@[simp] theorem hostReadStatus_smp : (hostReadStatus s).smp = s.smp := rfl
@[simp] theorem hostReadStatus_todo : (hostReadStatus s).todo = s.todo := rfl
@[simp] theorem hostReadStatus_buf : (hostReadStatus s).buf = s.buf := rfl
@[simp] theorem hostReadStatus_rst : (hostReadStatus s).rst = s.rst := rfl
@[simp] theorem hostReadStatus_order : (hostReadStatus s).order = s.order := rfl
@[simp] theorem hostReadStatus_moves : (hostReadStatus s).moves = s.moves := rfl
@[simp] theorem hostReadStatus_bufRdata : (hostReadStatus s).bufRdata = s.bufRdata := rfl
@[simp] theorem hostReadStatus_statusRead : (hostReadStatus s).statusRead = status s := rfl
@[simp] theorem hostReadStatus_envScl : (hostReadStatus s).envScl = s.envScl := rfl
@[simp] theorem hostReadStatus_envSda : (hostReadStatus s).envSda = s.envSda := rfl
@[simp] theorem hostReadStatus_answers : (hostReadStatus s).answers = s.answers := rfl
@[simp] theorem hostReadStatus_samples : (hostReadStatus s).samples = s.samples := rfl
@[simp] theorem hostReadStatus_waits : (hostReadStatus s).waits = s.waits := rfl
@[simp] theorem hostReadStatus_finalNack : (hostReadStatus s).finalNack = s.finalNack := rfl

/-! loadShr -/

@[simp] theorem loadShr_sclOut (b : ByteSrc) : (loadShr b s).sclOut = s.sclOut := rfl
@[simp] theorem loadShr_sdaOut (b : ByteSrc) : (loadShr b s).sdaOut = s.sdaOut := rfl
@[simp] theorem loadShr_txn (b : ByteSrc) : (loadShr b s).txn = s.txn := rfl
@[simp] theorem loadShr_busy (b : ByteSrc) : (loadShr b s).busy = s.busy := rfl
@[simp] theorem loadShr_ackf (b : ByteSrc) : (loadShr b s).ackf = s.ackf := rfl
@[simp] theorem loadShr_nak (b : ByteSrc) : (loadShr b s).nak = s.nak := rfl
@[simp] theorem loadShr_seqErr (b : ByteSrc) : (loadShr b s).seqErr = s.seqErr := rfl
@[simp] theorem loadShr_illCmd (b : ByteSrc) : (loadShr b s).illCmd = s.illCmd := rfl
@[simp] theorem loadShr_k (b : ByteSrc) : (loadShr b s).k = s.k := rfl
@[simp] theorem loadShr_opr (b : ByteSrc) : (loadShr b s).opr = s.opr := rfl
@[simp] theorem loadShr_addrr (b : ByteSrc) : (loadShr b s).addrr = s.addrr := rfl
@[simp] theorem loadShr_nr (b : ByteSrc) : (loadShr b s).nr = s.nr := rfl
@[simp] theorem loadShr_i (b : ByteSrc) : (loadShr b s).i = s.i := rfl
@[simp] theorem loadShr_shr (b : ByteSrc) : (loadShr b s).shr = byteOf b s := rfl
@[simp] theorem loadShr_bitc (b : ByteSrc) : (loadShr b s).bitc = s.bitc := rfl
@[simp] theorem loadShr_smp (b : ByteSrc) : (loadShr b s).smp = s.smp := rfl
@[simp] theorem loadShr_todo (b : ByteSrc) : (loadShr b s).todo = s.todo := rfl
@[simp] theorem loadShr_buf (b : ByteSrc) : (loadShr b s).buf = s.buf := rfl
@[simp] theorem loadShr_rst (b : ByteSrc) : (loadShr b s).rst = s.rst := rfl
@[simp] theorem loadShr_order (b : ByteSrc) : (loadShr b s).order = s.order := rfl
@[simp] theorem loadShr_moves (b : ByteSrc) : (loadShr b s).moves = s.moves := rfl
@[simp] theorem loadShr_bufRdata (b : ByteSrc) : (loadShr b s).bufRdata = s.bufRdata := rfl
@[simp] theorem loadShr_statusRead (b : ByteSrc) : (loadShr b s).statusRead = s.statusRead := rfl
@[simp] theorem loadShr_envScl (b : ByteSrc) : (loadShr b s).envScl = s.envScl := rfl
@[simp] theorem loadShr_envSda (b : ByteSrc) : (loadShr b s).envSda = s.envSda := rfl
@[simp] theorem loadShr_answers (b : ByteSrc) : (loadShr b s).answers = s.answers := rfl
@[simp] theorem loadShr_samples (b : ByteSrc) : (loadShr b s).samples = s.samples := rfl
@[simp] theorem loadShr_waits (b : ByteSrc) : (loadShr b s).waits = s.waits := rfl
@[simp] theorem loadShr_finalNack (b : ByteSrc) : (loadShr b s).finalNack = s.finalNack := rfl

/-! shiftShr -/

@[simp] theorem shiftShr_sclOut : (shiftShr s).sclOut = s.sclOut := rfl
@[simp] theorem shiftShr_sdaOut : (shiftShr s).sdaOut = s.sdaOut := rfl
@[simp] theorem shiftShr_txn : (shiftShr s).txn = s.txn := rfl
@[simp] theorem shiftShr_busy : (shiftShr s).busy = s.busy := rfl
@[simp] theorem shiftShr_ackf : (shiftShr s).ackf = s.ackf := rfl
@[simp] theorem shiftShr_nak : (shiftShr s).nak = s.nak := rfl
@[simp] theorem shiftShr_seqErr : (shiftShr s).seqErr = s.seqErr := rfl
@[simp] theorem shiftShr_illCmd : (shiftShr s).illCmd = s.illCmd := rfl
@[simp] theorem shiftShr_k : (shiftShr s).k = s.k := rfl
@[simp] theorem shiftShr_opr : (shiftShr s).opr = s.opr := rfl
@[simp] theorem shiftShr_addrr : (shiftShr s).addrr = s.addrr := rfl
@[simp] theorem shiftShr_nr : (shiftShr s).nr = s.nr := rfl
@[simp] theorem shiftShr_i : (shiftShr s).i = s.i := rfl
@[simp] theorem shiftShr_shr : (shiftShr s).shr = s.shr <<< 1 := rfl
@[simp] theorem shiftShr_bitc : (shiftShr s).bitc = s.bitc := rfl
@[simp] theorem shiftShr_smp : (shiftShr s).smp = s.smp := rfl
@[simp] theorem shiftShr_todo : (shiftShr s).todo = s.todo := rfl
@[simp] theorem shiftShr_buf : (shiftShr s).buf = s.buf := rfl
@[simp] theorem shiftShr_rst : (shiftShr s).rst = s.rst := rfl
@[simp] theorem shiftShr_order : (shiftShr s).order = s.order := rfl
@[simp] theorem shiftShr_moves : (shiftShr s).moves = s.moves := rfl
@[simp] theorem shiftShr_bufRdata : (shiftShr s).bufRdata = s.bufRdata := rfl
@[simp] theorem shiftShr_statusRead : (shiftShr s).statusRead = s.statusRead := rfl
@[simp] theorem shiftShr_envScl : (shiftShr s).envScl = s.envScl := rfl
@[simp] theorem shiftShr_envSda : (shiftShr s).envSda = s.envSda := rfl
@[simp] theorem shiftShr_answers : (shiftShr s).answers = s.answers := rfl
@[simp] theorem shiftShr_samples : (shiftShr s).samples = s.samples := rfl
@[simp] theorem shiftShr_waits : (shiftShr s).waits = s.waits := rfl
@[simp] theorem shiftShr_finalNack : (shiftShr s).finalNack = s.finalNack := rfl

/-! shiftInShr -/

@[simp] theorem shiftInShr_sclOut : (shiftInShr s).sclOut = s.sclOut := rfl
@[simp] theorem shiftInShr_sdaOut : (shiftInShr s).sdaOut = s.sdaOut := rfl
@[simp] theorem shiftInShr_txn : (shiftInShr s).txn = s.txn := rfl
@[simp] theorem shiftInShr_busy : (shiftInShr s).busy = s.busy := rfl
@[simp] theorem shiftInShr_ackf : (shiftInShr s).ackf = s.ackf := rfl
@[simp] theorem shiftInShr_nak : (shiftInShr s).nak = s.nak := rfl
@[simp] theorem shiftInShr_seqErr : (shiftInShr s).seqErr = s.seqErr := rfl
@[simp] theorem shiftInShr_illCmd : (shiftInShr s).illCmd = s.illCmd := rfl
@[simp] theorem shiftInShr_k : (shiftInShr s).k = s.k := rfl
@[simp] theorem shiftInShr_opr : (shiftInShr s).opr = s.opr := rfl
@[simp] theorem shiftInShr_addrr : (shiftInShr s).addrr = s.addrr := rfl
@[simp] theorem shiftInShr_nr : (shiftInShr s).nr = s.nr := rfl
@[simp] theorem shiftInShr_i : (shiftInShr s).i = s.i := rfl
@[simp] theorem shiftInShr_shr : (shiftInShr s).shr = (s.shr <<< 1) ||| (BitVec.ofBool s.smp).setWidth 8 := rfl
@[simp] theorem shiftInShr_bitc : (shiftInShr s).bitc = s.bitc := rfl
@[simp] theorem shiftInShr_smp : (shiftInShr s).smp = s.smp := rfl
@[simp] theorem shiftInShr_todo : (shiftInShr s).todo = s.todo := rfl
@[simp] theorem shiftInShr_buf : (shiftInShr s).buf = s.buf := rfl
@[simp] theorem shiftInShr_rst : (shiftInShr s).rst = s.rst := rfl
@[simp] theorem shiftInShr_order : (shiftInShr s).order = s.order := rfl
@[simp] theorem shiftInShr_moves : (shiftInShr s).moves = s.moves := rfl
@[simp] theorem shiftInShr_bufRdata : (shiftInShr s).bufRdata = s.bufRdata := rfl
@[simp] theorem shiftInShr_statusRead : (shiftInShr s).statusRead = s.statusRead := rfl
@[simp] theorem shiftInShr_envScl : (shiftInShr s).envScl = s.envScl := rfl
@[simp] theorem shiftInShr_envSda : (shiftInShr s).envSda = s.envSda := rfl
@[simp] theorem shiftInShr_answers : (shiftInShr s).answers = s.answers := rfl
@[simp] theorem shiftInShr_samples : (shiftInShr s).samples = s.samples := rfl
@[simp] theorem shiftInShr_waits : (shiftInShr s).waits = s.waits := rfl
@[simp] theorem shiftInShr_finalNack : (shiftInShr s).finalNack = s.finalNack := rfl

/-! incBitc -/

@[simp] theorem incBitc_sclOut : (incBitc s).sclOut = s.sclOut := rfl
@[simp] theorem incBitc_sdaOut : (incBitc s).sdaOut = s.sdaOut := rfl
@[simp] theorem incBitc_txn : (incBitc s).txn = s.txn := rfl
@[simp] theorem incBitc_busy : (incBitc s).busy = s.busy := rfl
@[simp] theorem incBitc_ackf : (incBitc s).ackf = s.ackf := rfl
@[simp] theorem incBitc_nak : (incBitc s).nak = s.nak := rfl
@[simp] theorem incBitc_seqErr : (incBitc s).seqErr = s.seqErr := rfl
@[simp] theorem incBitc_illCmd : (incBitc s).illCmd = s.illCmd := rfl
@[simp] theorem incBitc_k : (incBitc s).k = s.k := rfl
@[simp] theorem incBitc_opr : (incBitc s).opr = s.opr := rfl
@[simp] theorem incBitc_addrr : (incBitc s).addrr = s.addrr := rfl
@[simp] theorem incBitc_nr : (incBitc s).nr = s.nr := rfl
@[simp] theorem incBitc_i : (incBitc s).i = s.i := rfl
@[simp] theorem incBitc_shr : (incBitc s).shr = s.shr := rfl
@[simp] theorem incBitc_bitc : (incBitc s).bitc = s.bitc + 1 := rfl
@[simp] theorem incBitc_smp : (incBitc s).smp = s.smp := rfl
@[simp] theorem incBitc_todo : (incBitc s).todo = s.todo := rfl
@[simp] theorem incBitc_buf : (incBitc s).buf = s.buf := rfl
@[simp] theorem incBitc_rst : (incBitc s).rst = s.rst := rfl
@[simp] theorem incBitc_order : (incBitc s).order = s.order := rfl
@[simp] theorem incBitc_moves : (incBitc s).moves = s.moves := rfl
@[simp] theorem incBitc_bufRdata : (incBitc s).bufRdata = s.bufRdata := rfl
@[simp] theorem incBitc_statusRead : (incBitc s).statusRead = s.statusRead := rfl
@[simp] theorem incBitc_envScl : (incBitc s).envScl = s.envScl := rfl
@[simp] theorem incBitc_envSda : (incBitc s).envSda = s.envSda := rfl
@[simp] theorem incBitc_answers : (incBitc s).answers = s.answers := rfl
@[simp] theorem incBitc_samples : (incBitc s).samples = s.samples := rfl
@[simp] theorem incBitc_waits : (incBitc s).waits = s.waits := rfl
@[simp] theorem incBitc_finalNack : (incBitc s).finalNack = s.finalNack := rfl

/-! incI -/

@[simp] theorem incI_sclOut : (incI s).sclOut = s.sclOut := rfl
@[simp] theorem incI_sdaOut : (incI s).sdaOut = s.sdaOut := rfl
@[simp] theorem incI_txn : (incI s).txn = s.txn := rfl
@[simp] theorem incI_busy : (incI s).busy = s.busy := rfl
@[simp] theorem incI_ackf : (incI s).ackf = s.ackf := rfl
@[simp] theorem incI_nak : (incI s).nak = s.nak := rfl
@[simp] theorem incI_seqErr : (incI s).seqErr = s.seqErr := rfl
@[simp] theorem incI_illCmd : (incI s).illCmd = s.illCmd := rfl
@[simp] theorem incI_k : (incI s).k = s.k := rfl
@[simp] theorem incI_opr : (incI s).opr = s.opr := rfl
@[simp] theorem incI_addrr : (incI s).addrr = s.addrr := rfl
@[simp] theorem incI_nr : (incI s).nr = s.nr := rfl
@[simp] theorem incI_i : (incI s).i = s.i + 1 := rfl
@[simp] theorem incI_shr : (incI s).shr = s.shr := rfl
@[simp] theorem incI_bitc : (incI s).bitc = s.bitc := rfl
@[simp] theorem incI_smp : (incI s).smp = s.smp := rfl
@[simp] theorem incI_todo : (incI s).todo = s.todo := rfl
@[simp] theorem incI_buf : (incI s).buf = s.buf := rfl
@[simp] theorem incI_rst : (incI s).rst = s.rst := rfl
@[simp] theorem incI_order : (incI s).order = s.order := rfl
@[simp] theorem incI_moves : (incI s).moves = s.moves := rfl
@[simp] theorem incI_bufRdata : (incI s).bufRdata = s.bufRdata := rfl
@[simp] theorem incI_statusRead : (incI s).statusRead = s.statusRead := rfl
@[simp] theorem incI_envScl : (incI s).envScl = s.envScl := rfl
@[simp] theorem incI_envSda : (incI s).envSda = s.envSda := rfl
@[simp] theorem incI_answers : (incI s).answers = s.answers := rfl
@[simp] theorem incI_samples : (incI s).samples = s.samples := rfl
@[simp] theorem incI_waits : (incI s).waits = s.waits := rfl
@[simp] theorem incI_finalNack : (incI s).finalNack = s.finalNack := rfl

/-! storeShr -/

@[simp] theorem storeShr_sclOut : (storeShr s).sclOut = s.sclOut := rfl
@[simp] theorem storeShr_sdaOut : (storeShr s).sdaOut = s.sdaOut := rfl
@[simp] theorem storeShr_txn : (storeShr s).txn = s.txn := rfl
@[simp] theorem storeShr_busy : (storeShr s).busy = s.busy := rfl
@[simp] theorem storeShr_ackf : (storeShr s).ackf = s.ackf := rfl
@[simp] theorem storeShr_nak : (storeShr s).nak = s.nak := rfl
@[simp] theorem storeShr_seqErr : (storeShr s).seqErr = s.seqErr := rfl
@[simp] theorem storeShr_illCmd : (storeShr s).illCmd = s.illCmd := rfl
@[simp] theorem storeShr_k : (storeShr s).k = s.k := rfl
@[simp] theorem storeShr_opr : (storeShr s).opr = s.opr := rfl
@[simp] theorem storeShr_addrr : (storeShr s).addrr = s.addrr := rfl
@[simp] theorem storeShr_nr : (storeShr s).nr = s.nr := rfl
@[simp] theorem storeShr_i : (storeShr s).i = s.i := rfl
@[simp] theorem storeShr_shr : (storeShr s).shr = s.shr := rfl
@[simp] theorem storeShr_bitc : (storeShr s).bitc = s.bitc := rfl
@[simp] theorem storeShr_smp : (storeShr s).smp = s.smp := rfl
@[simp] theorem storeShr_todo : (storeShr s).todo = s.todo := rfl
@[simp] theorem storeShr_buf : (storeShr s).buf = cellStore s.buf s.i.toNat s.shr := rfl
@[simp] theorem storeShr_rst : (storeShr s).rst = s.rst := rfl
@[simp] theorem storeShr_order : (storeShr s).order = s.order := rfl
@[simp] theorem storeShr_moves : (storeShr s).moves = s.moves := rfl
@[simp] theorem storeShr_bufRdata : (storeShr s).bufRdata = s.bufRdata := rfl
@[simp] theorem storeShr_statusRead : (storeShr s).statusRead = s.statusRead := rfl
@[simp] theorem storeShr_envScl : (storeShr s).envScl = s.envScl := rfl
@[simp] theorem storeShr_envSda : (storeShr s).envSda = s.envSda := rfl
@[simp] theorem storeShr_answers : (storeShr s).answers = s.answers := rfl
@[simp] theorem storeShr_samples : (storeShr s).samples = s.samples := rfl
@[simp] theorem storeShr_waits : (storeShr s).waits = s.waits := rfl
@[simp] theorem storeShr_finalNack : (storeShr s).finalNack = s.finalNack := rfl

/-! assertRst -/

@[simp] theorem assertRst_sclOut : (assertRst s).sclOut = true := rfl
@[simp] theorem assertRst_sdaOut : (assertRst s).sdaOut = true := rfl
@[simp] theorem assertRst_txn : (assertRst s).txn = .idle := rfl
@[simp] theorem assertRst_busy : (assertRst s).busy = false := rfl
@[simp] theorem assertRst_ackf : (assertRst s).ackf = false := rfl
@[simp] theorem assertRst_nak : (assertRst s).nak = false := rfl
@[simp] theorem assertRst_seqErr : (assertRst s).seqErr = false := rfl
@[simp] theorem assertRst_illCmd : (assertRst s).illCmd = false := rfl
@[simp] theorem assertRst_k : (assertRst s).k = 0 := rfl
@[simp] theorem assertRst_opr : (assertRst s).opr = 0 := rfl
@[simp] theorem assertRst_addrr : (assertRst s).addrr = 0 := rfl
@[simp] theorem assertRst_nr : (assertRst s).nr = 0 := rfl
@[simp] theorem assertRst_i : (assertRst s).i = 0 := rfl
@[simp] theorem assertRst_shr : (assertRst s).shr = 0 := rfl
@[simp] theorem assertRst_bitc : (assertRst s).bitc = 0 := rfl
@[simp] theorem assertRst_smp : (assertRst s).smp = false := rfl
@[simp] theorem assertRst_todo : (assertRst s).todo = [] := rfl
@[simp] theorem assertRst_buf : (assertRst s).buf = s.buf := rfl
@[simp] theorem assertRst_rst : (assertRst s).rst = s.rst := rfl
@[simp] theorem assertRst_order : (assertRst s).order = none := rfl
@[simp] theorem assertRst_moves : (assertRst s).moves = s.moves := rfl
@[simp] theorem assertRst_bufRdata : (assertRst s).bufRdata = s.bufRdata := rfl
@[simp] theorem assertRst_statusRead : (assertRst s).statusRead = s.statusRead := rfl
@[simp] theorem assertRst_envScl : (assertRst s).envScl = s.envScl := rfl
@[simp] theorem assertRst_envSda : (assertRst s).envSda = s.envSda := rfl
@[simp] theorem assertRst_answers : (assertRst s).answers = s.answers := rfl
@[simp] theorem assertRst_samples : (assertRst s).samples = s.samples := rfl
@[simp] theorem assertRst_waits : (assertRst s).waits = s.waits := rfl
@[simp] theorem assertRst_finalNack : (assertRst s).finalNack = s.finalNack := rfl

/-! checkOrder: every field but SEQ_ERR -/

theorem checkOrder_eq (p : Txn) : checkOrder p s = { s with seqErr := s.seqErr || !decide (s.txn = p) } := by
  by_cases h : s.txn = p
  · subst h; simp [checkOrder]
  · simp [checkOrder, raiseSeqErr, h]

@[simp] theorem checkOrder_sclOut (p : Txn) : (checkOrder p s).sclOut = s.sclOut := by rw [checkOrder_eq]
@[simp] theorem checkOrder_sdaOut (p : Txn) : (checkOrder p s).sdaOut = s.sdaOut := by rw [checkOrder_eq]
@[simp] theorem checkOrder_txn (p : Txn) : (checkOrder p s).txn = s.txn := by rw [checkOrder_eq]
@[simp] theorem checkOrder_busy (p : Txn) : (checkOrder p s).busy = s.busy := by rw [checkOrder_eq]
@[simp] theorem checkOrder_ackf (p : Txn) : (checkOrder p s).ackf = s.ackf := by rw [checkOrder_eq]
@[simp] theorem checkOrder_nak (p : Txn) : (checkOrder p s).nak = s.nak := by rw [checkOrder_eq]
@[simp] theorem checkOrder_seqErr (p : Txn) : (checkOrder p s).seqErr = (s.seqErr || !decide (s.txn = p)) := by rw [checkOrder_eq]
@[simp] theorem checkOrder_illCmd (p : Txn) : (checkOrder p s).illCmd = s.illCmd := by rw [checkOrder_eq]
@[simp] theorem checkOrder_k (p : Txn) : (checkOrder p s).k = s.k := by rw [checkOrder_eq]
@[simp] theorem checkOrder_opr (p : Txn) : (checkOrder p s).opr = s.opr := by rw [checkOrder_eq]
@[simp] theorem checkOrder_addrr (p : Txn) : (checkOrder p s).addrr = s.addrr := by rw [checkOrder_eq]
@[simp] theorem checkOrder_nr (p : Txn) : (checkOrder p s).nr = s.nr := by rw [checkOrder_eq]
@[simp] theorem checkOrder_i (p : Txn) : (checkOrder p s).i = s.i := by rw [checkOrder_eq]
@[simp] theorem checkOrder_shr (p : Txn) : (checkOrder p s).shr = s.shr := by rw [checkOrder_eq]
@[simp] theorem checkOrder_bitc (p : Txn) : (checkOrder p s).bitc = s.bitc := by rw [checkOrder_eq]
@[simp] theorem checkOrder_smp (p : Txn) : (checkOrder p s).smp = s.smp := by rw [checkOrder_eq]
@[simp] theorem checkOrder_todo (p : Txn) : (checkOrder p s).todo = s.todo := by rw [checkOrder_eq]
@[simp] theorem checkOrder_buf (p : Txn) : (checkOrder p s).buf = s.buf := by rw [checkOrder_eq]
@[simp] theorem checkOrder_rst (p : Txn) : (checkOrder p s).rst = s.rst := by rw [checkOrder_eq]
@[simp] theorem checkOrder_order (p : Txn) : (checkOrder p s).order = s.order := by rw [checkOrder_eq]
@[simp] theorem checkOrder_moves (p : Txn) : (checkOrder p s).moves = s.moves := by rw [checkOrder_eq]
@[simp] theorem checkOrder_bufRdata (p : Txn) : (checkOrder p s).bufRdata = s.bufRdata := by rw [checkOrder_eq]
@[simp] theorem checkOrder_statusRead (p : Txn) : (checkOrder p s).statusRead = s.statusRead := by rw [checkOrder_eq]
@[simp] theorem checkOrder_envScl (p : Txn) : (checkOrder p s).envScl = s.envScl := by rw [checkOrder_eq]
@[simp] theorem checkOrder_envSda (p : Txn) : (checkOrder p s).envSda = s.envSda := by rw [checkOrder_eq]
@[simp] theorem checkOrder_answers (p : Txn) : (checkOrder p s).answers = s.answers := by rw [checkOrder_eq]
@[simp] theorem checkOrder_samples (p : Txn) : (checkOrder p s).samples = s.samples := by rw [checkOrder_eq]
@[simp] theorem checkOrder_waits (p : Txn) : (checkOrder p s).waits = s.waits := by rw [checkOrder_eq]
@[simp] theorem checkOrder_finalNack (p : Txn) : (checkOrder p s).finalNack = s.finalNack := by rw [checkOrder_eq]

/-! accept -/

@[simp] theorem accept_sclOut (h : Header) : (accept h s).sclOut = s.sclOut := by simp [accept]
@[simp] theorem accept_sdaOut (h : Header) : (accept h s).sdaOut = s.sdaOut := by simp [accept]
@[simp] theorem accept_txn (h : Header) : (accept h s).txn = s.txn := by simp [accept]
@[simp] theorem accept_busy (h : Header) : (accept h s).busy = true := rfl
@[simp] theorem accept_ackf (h : Header) : (accept h s).ackf = s.ackf := by simp [accept]
@[simp] theorem accept_nak (h : Header) : (accept h s).nak = s.nak := by simp [accept]
@[simp] theorem accept_seqErr (h : Header) : (accept h s).seqErr = (s.seqErr || !decide (s.txn = h.pre)) := by simp [accept]
@[simp] theorem accept_illCmd (h : Header) : (accept h s).illCmd = s.illCmd := by simp [accept]
@[simp] theorem accept_k (h : Header) : (accept h s).k = 0 := rfl
@[simp] theorem accept_opr (h : Header) : (accept h s).opr = h.op := by simp [accept]
@[simp] theorem accept_addrr (h : Header) : (accept h s).addrr = h.addr := by simp [accept]
@[simp] theorem accept_nr (h : Header) : (accept h s).nr = h.n := by simp [accept]
@[simp] theorem accept_i (h : Header) : (accept h s).i = s.i := by simp [accept]
@[simp] theorem accept_shr (h : Header) : (accept h s).shr = s.shr := by simp [accept]
@[simp] theorem accept_bitc (h : Header) : (accept h s).bitc = s.bitc := by simp [accept]
@[simp] theorem accept_smp (h : Header) : (accept h s).smp = s.smp := by simp [accept]
@[simp] theorem accept_todo (h : Header) : (accept h s).todo = s.todo := by simp [accept]
@[simp] theorem accept_buf (h : Header) : (accept h s).buf = s.buf := by simp [accept]
@[simp] theorem accept_rst (h : Header) : (accept h s).rst = s.rst := by simp [accept]
@[simp] theorem accept_order (h : Header) : (accept h s).order = s.order := by simp [accept]
@[simp] theorem accept_moves (h : Header) : (accept h s).moves = s.moves := by simp [accept]
@[simp] theorem accept_bufRdata (h : Header) : (accept h s).bufRdata = s.bufRdata := by simp [accept]
@[simp] theorem accept_statusRead (h : Header) : (accept h s).statusRead = s.statusRead := by simp [accept]
@[simp] theorem accept_envScl (h : Header) : (accept h s).envScl = s.envScl := by simp [accept]
@[simp] theorem accept_envSda (h : Header) : (accept h s).envSda = s.envSda := by simp [accept]
@[simp] theorem accept_answers (h : Header) : (accept h s).answers = s.answers := by simp [accept]
@[simp] theorem accept_samples (h : Header) : (accept h s).samples = s.samples := by simp [accept]
@[simp] theorem accept_waits (h : Header) : (accept h s).waits = s.waits := by simp [accept]
@[simp] theorem accept_finalNack (h : Header) : (accept h s).finalNack = s.finalNack := by simp [accept]

end Sys2Proof.Machine
end

