-- ==== Sys2Proof/Laws/Memory.lean ====
section
/-! SUPPORT. Every memory operation keeps BUF's canonical form (spec/20_memory.md rule R60; log 4). -/

namespace Sys2Proof.Machine

theorem wf_nil : Memory.wf [] = true := rfl

theorem wf_reset : Memory.wf State.reset.buf = true := rfl

/-- The tail of a list in canonical form is in canonical form. -/
theorem wf_tail {c : Host.Cell} {r : List Host.Cell} (h : Memory.wf (c :: r) = true) : Memory.wf r = true := by
  cases r with
  | nil => rfl
  | cons d r => simp only [Memory.wf, Bool.and_eq_true] at h; exact h.2

/-- The form below a head: all that follows is in form and its first address is higher. -/
theorem wf_cons {c : Host.Cell} {r : List Host.Cell} (hc : c.1 < 256) (hr : Memory.wf r = true)
    (h : ∀ d r', r = d :: r' → c.1 < d.1) : Memory.wf (c :: r) = true := by
  cases r with
  | nil => simpa [Memory.wf] using hc
  | cons d r => simpa [Memory.wf, hr] using h d r rfl

/-- Every listed address of a list in canonical form is one of BUF's. -/
theorem wf_head_lt {c : Host.Cell} {r : List Host.Cell} (h : Memory.wf (c :: r) = true) : c.1 < 256 := by
  induction r generalizing c with
  | nil => simpa [Memory.wf] using h
  | cons d r ih =>
    simp only [Memory.wf, Bool.and_eq_true, decide_eq_true_eq] at h
    have := ih h.2
    omega

/-- The head of a list after a store is the old head or the stored cell. -/
theorem cellStore_head (l : List Host.Cell) (a : Nat) (v : Byte) :
    ∃ d r, cellStore l a v = d :: r ∧ (d.1 = a ∨ ∃ c r', l = c :: r' ∧ d.1 = c.1) := by
  cases l with
  | nil => exact ⟨_, _, rfl, .inl rfl⟩
  | cons c r =>
    unfold cellStore
    split
    · exact ⟨_, _, rfl, .inl rfl⟩
    · split
      · exact ⟨_, _, rfl, .inl rfl⟩
      · exact ⟨_, _, rfl, .inr ⟨c, r, rfl, rfl⟩⟩

/-- A store at one of BUF's indexes keeps the canonical form. -/
theorem cellStore_wf {l : List Host.Cell} {a : Nat} (v : Byte) (ha : a < 256) (h : Memory.wf l = true) :
    Memory.wf (cellStore l a v) = true := by
  induction l with
  | nil => simpa [cellStore, Memory.wf] using ha
  | cons c r ih =>
    unfold cellStore
    split
    · rename_i hlt
      exact wf_cons ha h fun d r' hd => by cases hd; exact hlt
    · rename_i hge
      split
      · rename_i heq
        refine wf_cons ha (wf_tail h) fun d r' hd => ?_
        subst hd
        simp only [Memory.wf, Bool.and_eq_true, decide_eq_true_eq] at h
        simpa [← heq] using h.1
      · rename_i hne
        refine wf_cons (wf_head_lt h) (ih (wf_tail h)) fun d r' hd => ?_
        obtain ⟨d', r'', he, h1 | ⟨c', r₀, hr, h2⟩⟩ := cellStore_head r a v
        · rw [he] at hd; cases hd; omega
        · rw [he] at hd; cases hd
          subst hr
          simp only [Memory.wf, Bool.and_eq_true, decide_eq_true_eq] at h
          omega

theorem bufSet_wf (a v : Byte) (s : State) (h : Memory.wf s.buf = true) : Memory.wf (bufSet a v s).buf = true :=
  cellStore_wf v a.isLt h

theorem storeShr_wf (s : State) (h : Memory.wf s.buf = true) : Memory.wf (storeShr s).buf = true :=
  bufSet_wf _ _ s h

theorem hostBufWrite_wf (a v : Byte) (s : State) (h : Memory.wf s.buf = true) :
    Memory.wf (hostBufWrite a v s).buf = true :=
  bufSet_wf a v s h

theorem assertRst_wf (s : State) (h : Memory.wf s.buf = true) : Memory.wf (assertRst s).buf = true := h

theorem releaseRst_wf (s : State) (h : Memory.wf s.buf = true) : Memory.wf (releaseRst s).buf = true := by
  unfold releaseRst
  split <;> exact h

end Sys2Proof.Machine
end

