-- ==== Sys2Proof/Laws/PerInstr.lean ====
section
/-! SUPPORT. Statements for all instructions, one lemma per constructor. The family RowBits: every instruction's operands
fit its row, and its word is the row's fixed bits plus the operand bits where the row puts them (spec/30_encoding.md rules
R92, R93, R99): no operand is dropped and none touches a fixed bit. -/

namespace Sys2Proof.Laws.RowBits

/-- The operands fit the row, and the encoded word is the row's fixed bits and the operand bits. -/
def Statement (i : Instr) : Prop := i.WellFormed ∧ portWordNat (encode i) = i.row.value + i.operandBits

/-- The value of a command word as a number. -/
theorem commandWord_toNat (op : BitVec 4) (a : SlaveAddr) (n : Byte) :
    (commandWord op a n).toNat = op.toNat * 65536 + (a.toNat * 256 + n.toNat) := by
  have ha := a.isLt
  have hn := n.isLt
  simp only [commandWord, BitVec.toNat_append, BitVec.toNat_ofNat, Nat.zero_mod, Nat.or_zero]
  rw [← Nat.shiftLeft_add_eq_or_of_lt ha, ← Nat.shiftLeft_add_eq_or_of_lt hn]
  simp only [Nat.shiftLeft_eq]
  omega

/-- Numbers below `2^15` share no bit with `OP` and `Z`. -/
theorem and_opZ_mask (x : Nat) (h : x < 2 ^ 15) : x &&& 0xF8000 = 0 := by
  apply Nat.eq_of_testBit_eq
  intro j
  rw [Nat.testBit_and, Nat.zero_testBit, show 0xF8000 = 31 <<< 15 from rfl, Nat.testBit_shiftLeft]
  by_cases hj : 15 ≤ j
  · rw [Nat.testBit_lt_two_pow (Nat.lt_of_lt_of_le h (Nat.pow_le_pow_right (by omega) hj))]
    rfl
  · simp [hj]

/-- Both operands of `WRITE` and `READ` fit the row. -/
theorem addrCount_fit (a : SlaveAddr) (n : Byte) (v : Nat) :
    Row.admits ⟨20, v, 0xF8000⟩ (a.toNat * 256 + n.toNat) = true := by
  have ha := a.isLt
  have hn := n.isLt
  have h : a.toNat * 256 + n.toNat < 2 ^ 15 := by omega
  simp only [Row.admits, Row.fits, Row.leavesFixed, and_opZ_mask _ h, Bool.and_eq_true, decide_eq_true_eq]
  exact ⟨show _ < 2 ^ 20 by omega, trivial⟩

theorem write (a : SlaveAddr) (n : Byte) : Statement (.write a n) :=
  ⟨addrCount_fit a n _, commandWord_toNat 0x1#4 a n⟩

theorem read (a : SlaveAddr) (n : Byte) : Statement (.read a n) :=
  ⟨addrCount_fit a n _, commandWord_toNat 0x2#4 a n⟩

theorem writeBegin (a : SlaveAddr) : Statement (.writeBegin a) := by
  unfold Statement Instr.WellFormed
  revert a
  decide +kernel

theorem writeBlock (n : Byte) : Statement (.writeBlock n) := by
  unfold Statement Instr.WellFormed
  revert n
  decide +kernel

theorem writeEnd : Statement .writeEnd := by unfold Statement; decide

theorem waitHalfPeriod : Statement .waitHalfPeriod := by unfold Statement; decide

theorem writeBit (x : Bool) : Statement (.writeBit x) := by unfold Statement; cases x <;> decide

theorem readBit : Statement .readBit := by unfold Statement; decide

theorem writeStart : Statement .writeStart := by unfold Statement; decide

theorem writeStop : Statement .writeStop := by unfold Statement; decide

theorem readAck : Statement .readAck := by unfold Statement; decide

theorem writeAck : Statement .writeAck := by unfold Statement; decide

theorem writeNack : Statement .writeNack := by unfold Statement; decide

theorem writeByte (x : Byte) : Statement (.writeByte x) := by
  unfold Statement Instr.WellFormed
  revert x
  decide +kernel

theorem readByte : Statement .readByte := by unfold Statement; decide

end Sys2Proof.Laws.RowBits
end

