-- ==== Sys2Proof/Laws/Sequencer.lean ====
section
/-! SUPPORT. What the sequencer's shared operations can do: scripts one after another, what no entry of a script touches,
what `settle`, `blockStep` and `complete` answer, and the cases of a step. -/

namespace Sys2Proof.Machine

/-! Scripts compose -/

@[simp] theorem runScript_nil (s : State) : runScript [] s = s := rfl

@[simp] theorem runScript_cons (m : Micro) (ms : List Micro) (s : State) :
    runScript (m :: ms) s = runScript ms (perform m s) := rfl

theorem runScript_append (xs ys : List Micro) (s : State) :
    runScript (xs ++ ys) s = runScript ys (runScript xs s) := by
  simp [runScript, List.foldl_append]

theorem traceOf_append (xs ys : List Micro) (s : State) :
    traceOf (xs ++ ys) s = traceOf xs s ++ traceOf ys (runScript xs s) := by
  induction xs generalizing s with
  | nil => rfl
  | cons m xs ih => cases m <;> simp [traceOf, ih]

/-! What running a script leaves alone -/

/-- The fields that no entry of a script touches. -/
structure SameOutside (s t : State) : Prop where
  busy : t.busy = s.busy
  seqErr : t.seqErr = s.seqErr
  illCmd : t.illCmd = s.illCmd
  opr : t.opr = s.opr
  addrr : t.addrr = s.addrr
  nr : t.nr = s.nr
  todo : t.todo = s.todo
  rst : t.rst = s.rst
  order : t.order = s.order
  moves : t.moves = s.moves
  bufRdata : t.bufRdata = s.bufRdata
  statusRead : t.statusRead = s.statusRead
  envScl : t.envScl = s.envScl
  finalNack : t.finalNack = s.finalNack

theorem SameOutside.trans {s t u : State} (h : SameOutside s t) (h' : SameOutside t u) : SameOutside s u :=
  ⟨h'.1.trans h.1, h'.2.trans h.2, h'.3.trans h.3, h'.4.trans h.4, h'.5.trans h.5, h'.6.trans h.6, h'.7.trans h.7,
    h'.8.trans h.8, h'.9.trans h.9, h'.10.trans h.10, h'.11.trans h.11, h'.12.trans h.12, h'.13.trans h.13, h'.14.trans h.14⟩

theorem perform_sameOutside (m : Micro) (s : State) : SameOutside s (perform m s) := by
  rcases m with a | u
  · cases a <;> constructor <;> rfl
  · cases u <;> constructor <;> rfl

theorem runScript_sameOutside (ms : List Micro) (s : State) : SameOutside s (runScript ms s) := by
  induction ms generalizing s with
  | nil => constructor <;> rfl
  | cons m ms ih => exact (perform_sameOutside m s).trans (ih _)

/-- Only `bufStore` touches BUF, so every entry keeps its canonical form. -/
theorem perform_wf (m : Micro) (s : State) (h : Memory.wf s.buf = true) : Memory.wf (perform m s).buf = true := by
  rcases m with a | u
  · cases a <;> exact h
  · cases u <;> first | exact storeShr_wf s h | exact h

theorem runScript_wf (ms : List Micro) (s : State) (h : Memory.wf s.buf = true) :
    Memory.wf (runScript ms s).buf = true := by
  induction ms generalizing s with
  | nil => exact h
  | cons m ms ih => exact ih _ (perform_wf m s h)

/-! `todo` and `busy` are read by no entry -/

theorem perform_setTodo (m : Micro) (s : State) (r : List Micro) (b : Bool) :
    perform m { s with todo := r, busy := b } = { perform m s with todo := r, busy := b } := by
  rcases m with a | u
  · cases a with
    | sda x => cases x <;> rfl
    | _ => rfl
  · cases u with
    | shrLoad x => cases x <;> rfl
    | _ => rfl

theorem complete_setTodo (ms : List Micro) (s : State) (r : List Micro) (b : Bool) :
    complete ms { s with todo := r, busy := b } = complete ms s := by
  induction ms generalizing s with
  | nil => rfl
  | cons m ms ih =>
    have := ih (perform m s)
    rw [← perform_setTodo] at this
    exact this

/-! `settle` and `blockStep` -/

/-- `settle` makes the leading updates and keeps the rest: the work that remains is the same. -/
theorem complete_settle (ms : List Micro) (s : State) :
    complete (settle ms s).todo (settle ms s) = complete ms s := by
  induction ms generalizing s with
  | nil => rfl
  | cons m ms ih =>
    cases m with
    | act a => exact complete_setTodo (.act a :: ms) s _ s.busy
    | upd u => exact ih (applyUpd u s)

/-- After `settle` the next entry is an action, or nothing is left and `BUSY` has fallen. -/
theorem settle_head (ms : List Micro) (s : State) :
    ((settle ms s).todo = [] ∧ (settle ms s).busy = false) ∨
      ∃ a r, (settle ms s).todo = .act a :: r ∧ (settle ms s).busy = s.busy := by
  induction ms generalizing s with
  | nil => exact .inl ⟨rfl, rfl⟩
  | cons m ms ih =>
    cases m with
    | act a => exact .inr ⟨a, ms, rfl, rfl⟩
    | upd u =>
      have hb : (applyUpd u s).busy = s.busy := (perform_sameOutside (.upd u) s).busy
      simpa [settle, hb] using ih (applyUpd u s)

/-- A step of the block does part of the work that remains. -/
theorem complete_blockStep (s : State) : complete (blockStep s).todo (blockStep s) = complete s.todo s := by
  unfold blockStep
  split
  · split
    · rename_i a r h
      rw [complete_settle, h]
      rfl
    · exact complete_settle s.todo s
  · rfl

/-- `settle` touches neither the host's and environment's fields nor the latch; it is a prefix of the script. -/
theorem settle_eq_runScript (ms : List Micro) (s : State) :
    ∃ us r b, ms = us ++ r ∧ (∀ m ∈ us, ∃ u, m = .upd u) ∧ settle ms s = { runScript us s with todo := r, busy := b } := by
  induction ms generalizing s with
  | nil => exact ⟨[], [], false, rfl, by simp, rfl⟩
  | cons m ms ih =>
    cases m with
    | act a => exact ⟨[], .act a :: ms, s.busy, rfl, by simp, rfl⟩
    | upd u =>
      obtain ⟨us, r, b, h1, h2, h3⟩ := ih (applyUpd u s)
      refine ⟨.upd u :: us, r, b, by rw [h1]; rfl, ?_, h3⟩
      intro m hm
      rcases List.mem_cons.1 hm with rfl | hm
      · exact ⟨u, rfl⟩
      · exact h2 m hm

/-- A step of the block is a run of entries from `todo`, `todo` and `busy` apart. -/
theorem blockStep_eq_runScript (s : State) :
    ∃ us r b, blockStep s = { runScript us s with todo := r, busy := b } := by
  unfold blockStep
  split
  · split
    · rename_i a r h
      obtain ⟨us, r', b, -, -, h3⟩ := settle_eq_runScript r (stepAct a s)
      exact ⟨.act a :: us, r', b, h3⟩
    · obtain ⟨us, r', b, -, -, h3⟩ := settle_eq_runScript s.todo s
      exact ⟨us, r', b, h3⟩
  · exact ⟨[], s.todo, s.busy, rfl⟩

/-! The cases of a step -/

/-- What an instruction executed can do: it answers a next state, the end of its script. -/
theorem exec_eq (i : Instr) (s : State) :
    exec i s =
      .next (match headerOf i with
        | some h => complete (scriptOf s.finalNack i) (accept h s)
        | none => runScript (scriptOf s.finalNack i) s) := by
  cases i <;> rfl

/-- With `rst = 0` the step that no agent's move takes is the block's. -/
theorem clockStep_of_low {s : State} (h : s.rst = false) : clockStep s = blockStep s := by
  simp [clockStep, h]

/-- With `rst = 1` it is a clock edge that resets. -/
theorem clockStep_of_high {s : State} (h : s.rst = true) : clockStep s = assertRst s := by
  simp [clockStep, h]

/-- `rst` going low leaves a machine out of reset as it is. -/
theorem releaseRst_of_low {s : State} (h : s.rst = false) : releaseRst s = s := by
  simp [releaseRst, h]

/-- With `rst = 1` the registers are at the table of R40 when it goes low. -/
theorem releaseRst_of_high {s : State} (h : s.rst = true) : releaseRst s = { assertRst s with rst := false } := by
  simp [releaseRst, h]

/-- With nothing on the order port, or `rst = 1`, the next step is a move's or the clock's. -/
theorem fetch_eq_fetchMove {s : State} (h : s.rst = true ∨ s.order = none) : fetch s = fetchMove s := by
  rcases h with h | h <;> simp [fetch, h]

/-- Everything a step that answers a next state can be (R14, R220, R246). -/
theorem step_cases {s t : State} (h : step s = .next t) :
    (∃ o i, s.rst = false ∧ s.order = some o ∧ decodeOrder o = .ok i ∧ exec i { s with order := none } = .next t) ∨
    ((s.rst = true ∨ s.order = none) ∧
      (t = clockStep s ∨
        ∃ m ms, s.moves = m :: ms ∧ (portsReady s = true ∨ moveWaits m = false) ∧
          ((m = .pass ∧ t = clockStep { s with moves := ms }) ∨
            (m = .rstLow ∧ t = releaseRst { s with moves := ms }) ∨
            (∃ w i, m = .call w ∧ decodeCommand w = .ok i ∧ exec i { s with moves := ms } = .next t) ∨
            (∃ w i, m = .present w ∧ decodeCommand w = .ok i ∧ t = beginCommand i { s with moves := ms }) ∨
            (∃ w e, (m = .call w ∨ m = .present w) ∧ decodeCommand w = .error e ∧
              t = raiseIllCmd { s with moves := ms }) ∨
            (∃ a v, m = .bufWrite a v ∧ t = hostBufWrite a v { s with moves := ms }) ∨
            (∃ a, m = .bufRead a ∧ t = hostBufRead a { s with moves := ms }) ∨
            (m = .readStatus ∧ t = hostReadStatus { s with moves := ms }) ∨
            (∃ c d, m = .envMove c d ∧ t = envChange c d { s with moves := ms })))) := by
  have hq : (s.rst = true ∨ s.order = none) ∨ (s.rst = false ∧ ∃ o, s.order = some o) := by
    cases s.rst <;> cases s.order <;> simp
  unfold step at h
  obtain hq | ⟨hr, o, ho⟩ := hq
  · refine .inr ⟨hq, ?_⟩
    rw [fetch_eq_fetchMove hq] at h
    have hmc : s.moves = [] ∨ ∃ m ms, s.moves = m :: ms := by cases s.moves <;> simp
    unfold fetchMove at h
    obtain hm | ⟨m, ms, hm⟩ := hmc
    · rw [hm] at h; cases h; exact .inl rfl
    · rw [hm] at h
      dsimp only at h
      by_cases hw : (!portsReady s && moveWaits m) = true
      · rw [if_pos hw] at h; cases h; exact .inl rfl
      · rw [if_neg hw] at h
        refine .inr ⟨m, ms, hm, ?_, ?_⟩
        · cases hp : portsReady s <;> cases hv : moveWaits m <;> simp_all
        · cases m with
          | pass => cases h; exact .inl ⟨rfl, rfl⟩
          | rstLow => cases h; exact .inr (.inl ⟨rfl, rfl⟩)
          | readStatus => cases h; exact .inr (.inr (.inr (.inr (.inr (.inr (.inr (.inl ⟨rfl, rfl⟩)))))))
          | envMove c d => cases h; exact .inr (.inr (.inr (.inr (.inr (.inr (.inr (.inr ⟨c, d, rfl, rfl⟩)))))))
          | bufRead a => cases h; exact .inr (.inr (.inr (.inr (.inr (.inr (.inl ⟨a, rfl, rfl⟩))))))
          | bufWrite a v => cases h; exact .inr (.inr (.inr (.inr (.inr (.inl ⟨a, v, rfl, rfl⟩)))))
          | call w =>
            simp only [takeMove, callWord] at h
            cases hd : decodeCommand w with
            | ok i => rw [hd] at h; exact .inr (.inr (.inl ⟨w, i, rfl, hd, h⟩))
            | error e => rw [hd] at h; cases h; exact .inr (.inr (.inr (.inr (.inl ⟨w, e, .inl rfl, hd, rfl⟩))))
          | present w =>
            simp only [takeMove, presentWord] at h
            cases hd : decodeCommand w with
            | ok i => rw [hd] at h; cases h; exact .inr (.inr (.inr (.inl ⟨w, i, rfl, hd, rfl⟩)))
            | error e => rw [hd] at h; cases h; exact .inr (.inr (.inr (.inr (.inl ⟨w, e, .inr rfl, hd, rfl⟩))))
  · left
    rw [show fetch s = fetchOrder o s by simp [fetch, hr, ho]] at h
    simp only [fetchOrder] at h
    cases hd : decodeOrder o with
    | ok i => rw [hd] at h; exact ⟨o, i, hr, ho, hd, h⟩
    | error e => rw [hd] at h; cases h

end Sys2Proof.Machine
end

