-- ==== Sys2Proof/Laws/Samples.lean ====
section
/-! SUPPORT. What the environment answers (spec/20_memory.md rule R67): answers after some samples are the answers before,
further on; samples taken one after another add up; and what acceptance and completion make of a state. -/

namespace Sys2Proof.Machine

/-- After `m` samples the coming answers are those from the `m`-th on. -/
theorem answerFrom_drop (held : List Bool) (taken m j : Nat) :
    answerFrom (held.drop m) (taken + m) j = answerFrom held taken (m + j) := by
  simp [answerFrom, List.getElem?_drop, Nat.add_assoc]

/-- The answers depend on nothing but the answers held and the number of samples taken. -/
theorem answerAt_congr {s t : State} (h : t.answers = s.answers) (h' : t.samples = s.samples) (j : Nat) :
    answerAt t j = answerAt s j := by
  simp [answerAt, h, h']

theorem answerAt_sampled (m j : Nat) (s : State) : answerAt (sampled m s) j = answerAt s (m + j) :=
  answerFrom_drop _ _ _ _

/-- `m` samples and then `l` samples are `m + l` samples. -/
theorem sampled_sampled (m l : Nat) (s : State) : sampled l (sampled m s) = sampled (m + l) s := by
  by_cases h : l = 0
  · subst h
    simp [sampled]
  · have e : m + (l - 1) = m + l - 1 := by omega
    simp [sampled, answerAt, answerFrom_drop, h, e, List.drop_drop, Nat.add_assoc]

theorem anySample_last (s : State) (m : Nat) : anySample s (m + 1) = (anySample s m || answerAt s m) := by
  simp [anySample, List.range_succ, answerAt]

/-- Everything acceptance does (R95). -/
theorem accept_eq (h : Header) (s : State) :
    accept h s =
      { s with
        opr := h.op, addrr := h.addr, nr := h.n
        seqErr := s.seqErr || !decide (s.txn = h.pre), k := 0, busy := true } := by
  by_cases hp : s.txn = h.pre <;> simp [accept, checkOrder, raiseSeqErr, hp]

/-- A script counts its actions in `K` (R31). -/
theorem runScript_k (ms : List Micro) (s : State) :
    (runScript ms s).k = s.k + BitVec.ofNat 14 (ms.countP fun m => match m with | .act _ => true | .upd _ => false) := by
  induction ms generalizing s with
  | nil => simp
  | cons m ms ih =>
    rw [runScript_cons, ih]
    rcases m with a | u
    · cases a <;> simp only [perform, stepAct, List.countP_cons] <;> apply BitVec.eq_of_toNat_eq <;> simp <;> omega
    · simp only [List.countP_cons]
      cases u <;> rfl

end Sys2Proof.Machine
end

