-- ==== Sys2Proof/Tests/Slice0.lean ====
section
/-! SUPPORT. The model's own tests: words written out from the encoding tables of spec/30_encoding.md, the vectors of
spec/95_test_vectors.md (the ids V<n>, P<n> are its), ill-formed terms, and a witness for the hypotheses of every
statement. Expected values come from the spec, never from a run of the model. -/

namespace Sys2Proof.Tests

open Sys2Proof.Machine

/-! Helpers -/

/-- What an instruction leaves, seen through `f`. -/
def after {α : Type} (i : Instr) (s : State) (f : State → α) : Option α :=
  match exec i s with
  | .next t => some (f t)
  | .fault _ => none
  | .refused _ => none

/-- What a step leaves, seen through `f`. -/
def afterStep {α : Type} (s : State) (f : State → α) : Option α :=
  match step s with
  | .next t => some (f t)
  | .fault _ => none
  | .refused _ => none

/-- Just after reset, with these bytes in BUF and these answers of the environment. -/
def mk (cells : List Host.Cell) (held : List Bool) : State := { State.reset with buf := cells, answers := held }

/-- Just after reset, the host's schedule given. -/
def sched (ms : List Move) : State := { State.reset with moves := ms }

/-- With `WRITE_BEGIN` done (V80): a transaction open, the data output low. -/
def opened (cells : List Host.Cell) (held : List Bool) : State :=
  { State.reset with txn := .writeOpen, sdaOut := false, buf := cells, answers := held }

/-- The two outputs. -/
def outs (s : State) : Bool × Bool := (s.sclOut, s.sdaOut)

/-- What the recorder emits for an operation, from an idle bus. -/
def marks (i : Instr) (s : State) : List Mark := (recordAll recorderIdle (instrTrace i s)).2

/-- Bits written as marks. -/
def bits (l : List Nat) : List Mark := l.map fun b => .bit (decide (b = 1))

/-- Bits written as the environment's answers. -/
def ans (l : List Nat) : List Bool := l.map fun b => decide (b = 1)

/-- The levels put on the data output, in order. -/
def dataOf (l : List Event) : List Nat :=
  l.filterMap fun e => match e with | .sda v => some v.toNat | _ => none

/-! Well-formedness: each check refuses an ill-formed term -/

/-- An operand with a bit above the 20-bit word does not fit. -/
theorem test_row_refuses_bits_above_the_word :
    Row.fits (Instr.write 0#7 0#8).row 0x100000 = false ∧ Row.admits (Instr.write 0#7 0#8).row 0x100000 = false := by
  decide

/-- An address of 0x80 would set `Z`, bit 15 (V50). -/
theorem test_row_refuses_an_address_above_127 :
    Row.leavesFixed (Instr.write 0#7 0#8).row (0x80 * 256) = false ∧
      Row.admits (Instr.read 0#7 0#8).row (0x80 * 256) = false := by decide

/-- `N` of `WRITE_BEGIN`, `ADDR` of `WRITE_BLOCK`, both of `WRITE_END`, `ARG` of `read_bit`, bit 1 of `ARG` of `write_bit`. -/
theorem test_row_refuses_unused_fields :
    Row.admits (Instr.writeBegin 0#7).row 0x3C01 = false ∧ Row.admits (Instr.writeBlock 0#8).row 0x5002 = false ∧
      Row.admits Instr.writeEnd.row 0x00001 = false ∧ Row.admits Instr.writeEnd.row 0x00100 = false ∧
      Row.admits Instr.readBit.row 1 = false ∧ Row.admits (Instr.writeBit false).row 2 = false := by decide

/-- The largest operands are admitted. -/
theorem test_row_admits_the_largest_operands :
    (Instr.write 0x7F#7 255#8).WellFormed ∧ (Instr.read 0x7F#7 255#8).WellFormed ∧
      (Instr.writeBegin 0x7F#7).WellFormed ∧ (Instr.writeBlock 255#8).WellFormed ∧ Instr.writeEnd.WellFormed ∧
      (Instr.writeBit true).WellFormed ∧ (Instr.writeByte 255#8).WellFormed := by decide

/-! Decoding: every constructor by a word written out from its encoding -/

/-- `WRITE` (R91, R93): OP 0001, Z 0, ADDR 1010000, N 00000011 (V40). -/
theorem test_decode_write : decode (.command 0b00010101000000000011#20) = .ok (.write 0x50#7 3#8) := by decide

/-- The largest and the smallest operands of `WRITE` (V45, V46). -/
theorem test_decode_write_ends :
    decode (.command 0x17FFF#20) = .ok (.write 0x7F#7 255#8) ∧ decode (.command 0x10000#20) = .ok (.write 0#7 0#8) := by
  decide

/-- `READ`: OP 0010, Z 0, ADDR 1010000, N 00000010 (V41). -/
theorem test_decode_read : decode (.command 0b00100101000000000010#20) = .ok (.read 0x50#7 2#8) := by decide

/-- `WRITE_BEGIN`: OP 0011, Z 0, ADDR 0111100, N 0 (V42). -/
theorem test_decode_write_begin : decode (.command 0b00110011110000000000#20) = .ok (.writeBegin 0x3C#7) := by decide

/-- `WRITE_BLOCK`: OP 0100, Z 0, ADDR 0, N 00000010 (V43). -/
theorem test_decode_write_block : decode (.command 0b01000000000000000010#20) = .ok (.writeBlock 2#8) := by decide

/-- `WRITE_END`: OP 0101 and zeros (V44). -/
theorem test_decode_write_end : decode (.command 0b01010000000000000000#20) = .ok .writeEnd := by decide

/-- The orders of R99: `UOP` in bits 11:8, `ARG` in bits 7:0. -/
theorem test_decode_orders :
    decode (.order 0b000100000000#12) = .ok .waitHalfPeriod ∧ decode (.order 0b001000000000#12) = .ok (.writeBit false) ∧
      decode (.order 0b001000000001#12) = .ok (.writeBit true) ∧ decode (.order 0b001100000000#12) = .ok .readBit ∧
      decode (.order 0b010000000000#12) = .ok .writeStart ∧ decode (.order 0b010100000000#12) = .ok .writeStop ∧
      decode (.order 0b011000000000#12) = .ok .readAck ∧ decode (.order 0b011100000000#12) = .ok .writeAck ∧
      decode (.order 0b100000000000#12) = .ok .writeNack ∧
      decode (.order 0b100110100000#12) = .ok (.writeByte 0xA0#8) ∧ decode (.order 0b101000000000#12) = .ok .readByte := by
  decide

/-- The illegal words V47 to V54, each by its reason. -/
theorem test_decode_rejects :
    decode (.command 0x00000#20) = .error (.reservedOp 0#4) ∧ decode (.command 0x60000#20) = .error (.reservedOp 6#4) ∧
      decode (.command 0xF0000#20) = .error (.reservedOp 15#4) ∧ decode (.command 0x1D003#20) = .error .zSet ∧
      decode (.command 0x33C01#20) = .error .unusedN ∧ decode (.command 0x45002#20) = .error .unusedAddr ∧
      decode (.command 0x50001#20) = .error .unusedN ∧ decode (.command 0x58000#20) = .error .zSet := by decide

/-- Orders that name nothing, and an argument where none is used (R99). -/
theorem test_decode_rejects_orders :
    decode (.order 0x000#12) = .error (.unnamedUop 0#4) ∧ decode (.order 0xB00#12) = .error (.unnamedUop 11#4) ∧
      decode (.order 0x202#12) = .error .unusedArg ∧ decode (.order 0x601#12) = .error .unusedArg := by decide

/-- The control bytes of 95_test_vectors.md section 5. -/
theorem test_control_bytes :
    ctrlByte 0x50#7 false = 0xA0#8 ∧ ctrlByte 0x50#7 true = 0xA1#8 ∧ ctrlByte 0x00#7 false = 0x00#8 ∧
      ctrlByte 0x00#7 true = 0x01#8 ∧ ctrlByte 0x7F#7 false = 0xFE#8 ∧ ctrlByte 0x7F#7 true = 0xFF#8 ∧
      ctrlByte 0x3C#7 false = 0x78#8 ∧ ctrlByte 0x27#7 true = 0x4F#8 := by decide

/-- A command row and an order row read from the table's numbering, and a number that fits no port. -/
theorem test_decode_table_words :
    decodeTableWord 24 0x15003 = some (.write 0x50#7 3#8) ∧ decodeTableWord 24 0x50000 = some .writeEnd ∧
      decodeTableWord 16 0x9A0 = some (.writeByte 0xA0#8) ∧ decodeTableWord 16 0xA00 = some .readByte ∧
      decodeTableWord 16 0x1A00 = none ∧ decodeTableWord 24 0x115003 = none := by decide

/-! The signal primitives (V1 to V14) -/

/-- V1: one wait, the outputs unchanged. -/
theorem test_wait_half_period :
    instrTrace .waitHalfPeriod State.reset = [.wait] ∧ after .waitHalfPeriod State.reset outs = some (true, true) := by
  decide

/-- V2: `C0 W D0 C1 W`, exit 1,0. -/
theorem test_write_bit_0 :
    instrTrace (.writeBit false) State.reset = [.scl false, .wait, .sda false, .scl true, .wait] ∧
      after (.writeBit false) State.reset outs = some (true, false) := by decide

/-- V4: `write_bit(1)` directly after `write_start`: `C0 W D1 C1 W`, exit 1,1. -/
theorem test_write_bit_1_after_start :
    instrTrace (.writeBit true) { State.reset with sclOut := false, sdaOut := false } =
        [.scl false, .wait, .sda true, .scl true, .wait] ∧
      after (.writeBit true) { State.reset with sclOut := false, sdaOut := false } outs = some (true, true) := by decide

/-- V5: the data line is released, then sampled 1. -/
theorem test_read_bit_1 :
    instrTrace .readBit { mk [] [true] with sdaOut := false } =
        [.scl false, .sda true, .wait, .scl true, .wait, .sample true, .wait] ∧
      after .readBit { mk [] [true] with sdaOut := false } (fun t => (t.smp, outs t)) = some (true, true, true) := by
  decide

/-- V6: a slave pulls low; the sample is 0 and the output stays released. -/
theorem test_read_bit_0 :
    after .readBit (mk [] [false]) (fun t => (t.smp, outs t)) = some (false, true, true) := by decide

/-- V7: `D0 C0`, exit 0,0, `NAK` cleared. -/
theorem test_write_start :
    instrTrace .writeStart State.reset = [.sda false, .scl false] ∧
      after .writeStart { State.reset with nak := true } (fun t => (t.nak, outs t)) = some (false, false, false) := by
  decide

/-- V8: with the data output low, the recorder sees no start. -/
theorem test_write_start_after_breach :
    instrTrace .writeStart { State.reset with sdaOut := false } = [.sda false, .scl false] ∧
      (recordAll ⟨true, false, none⟩ [.sda false, .scl false]).2 = [] := by decide

/-- The recorder's start rule (95_test_vectors.md section 2): no start with the clock low on entry; with both levels high a
start, the pending bit of the pulse before it standing first. -/
theorem test_write_start_recorded :
    (recordAll ⟨false, true, none⟩ [.sda false, .scl false]).2 = [] ∧
      Mark.start ∈ (recordAll ⟨true, true, some true⟩ [.sda false, .scl false]).2 := by decide

/-- V9: `C0 D0 C1 D1`, exit 1,1; the recorder sees a stop and no bit. -/
theorem test_write_stop :
    instrTrace .writeStop State.reset = [.scl false, .sda false, .scl true, .sda true] ∧
      after .writeStop State.reset outs = some (true, true) ∧ marks .writeStop State.reset = [.stop] := by decide

/-- V10: `ACKF = 1`, `NAK` unchanged. -/
theorem test_read_ack_low :
    after .readAck (mk [] [false]) (fun t => (t.ackf, t.nak)) = some (true, false) ∧
      after .readAck { mk [] [false] with nak := true } (fun t => (t.ackf, t.nak)) = some (true, true) := by decide

/-- V11: `ACKF = 0`, `NAK = 1`. -/
theorem test_read_ack_high :
    instrTrace .readAck (mk [] [true]) = [.scl false, .sda true, .wait, .scl true, .wait, .sample true, .wait] ∧
      after .readAck { mk [] [true] with ackf := true } (fun t => (t.ackf, t.nak)) = some (false, true) := by decide

/-- V12: `C0 W D0 C1 W`. -/
theorem test_write_ack :
    instrTrace .writeAck State.reset = [.scl false, .wait, .sda false, .scl true, .wait] ∧
      after .writeAck { State.reset with ackf := true, nak := true } (fun t => (t.ackf, t.nak, outs t)) =
        some (true, true, true, false) := by decide

/-- V13: `C0 W D1 C1 W`. -/
theorem test_write_nack :
    instrTrace .writeNack { State.reset with sdaOut := false } = [.scl false, .wait, .sda true, .scl true, .wait] ∧
      after .writeNack { State.reset with sdaOut := false } outs = some (true, true) := by decide

/-- V14: with the block's output low the wired AND is 0. -/
theorem test_sample_wired_and :
    (performAct .sample { mk [] [true] with sdaOut := false }).smp = false ∧ (performAct .sample (mk [] [true])).smp = true := by
  decide

/-! The byte serializer (V20 to V35) -/

/-- V22, V23: the data levels in order. -/
theorem test_write_byte_order :
    dataOf (instrTrace (.writeByte 0xA0#8) State.reset) = [1, 0, 1, 0, 0, 0, 0, 0] ∧
      dataOf (instrTrace (.writeByte 0x01#8) State.reset) = [0, 0, 0, 0, 0, 0, 0, 1] := by decide +kernel

/-- V21, V24: exit values of the data output; R150: `SHR` ends 0, `BITC` ends 8; 40 actions. -/
theorem test_write_byte_exit :
    after (.writeByte 0xFF#8) State.reset (fun t => (outs t, t.shr, t.bitc, t.k)) = some ((true, true), 0#8, 8#4, 40#14) ∧
      after (.writeByte 0x80#8) State.reset outs = some (true, false) := by decide +kernel

/-- V30, V31: the first sample is bit 7. -/
theorem test_read_byte_order :
    after .readByte (mk [] (ans [1, 0, 1, 0, 0, 1, 0, 1])) State.shr = some 0xA5#8 ∧
      after .readByte (mk [] (ans [0, 0, 1, 1, 1, 1, 0, 0])) State.shr = some 0x3C#8 := by decide +kernel

/-- V34, V35; R151: no flag written, 56 actions. -/
theorem test_read_byte_ends :
    after .readByte { mk [] (ans [1, 0, 0, 0, 0, 0, 0, 0]) with ackf := true, nak := true }
        (fun t => (t.shr, t.ackf, t.nak, t.k)) = some (0x80#8, true, true, 56#14) ∧
      after .readByte (mk [] (ans [0, 0, 0, 0, 0, 0, 0, 1])) State.shr = some 0x01#8 := by decide +kernel

/-! The commands (V60 to V87, P1 to P5) -/

/-- P1: `WRITE 0x50, 3` on the bus, every slot acknowledged. -/
theorem test_write_frame :
    marks (.write 0x50#7 3#8) (mk [(0, 0x10#8), (1, 0x20#8), (2, 0x30#8)] (ans [0, 0, 0, 0])) =
      [.start] ++ bits [1, 0, 1, 0, 0, 0, 0, 0, 0] ++ bits [0, 0, 0, 1, 0, 0, 0, 0, 0] ++
        bits [0, 0, 1, 0, 0, 0, 0, 0, 0] ++ bits [0, 0, 1, 1, 0, 0, 0, 0, 0] ++ [.stop] := by decide +kernel

/-- P1 and P1b: the status at the end, both outputs released, BUF as it was; with no slave `NAK = 1`. -/
theorem test_write_status :
    after (.write 0x50#7 3#8) (mk [(0, 0x10#8), (1, 0x20#8), (2, 0x30#8)] (ans [0, 0, 0, 0]))
        (fun t => (status t, outs t, t.buf, goodFinal t)) =
      some (0x04#8, (true, true), [(0, 0x10#8), (1, 0x20#8), (2, 0x30#8)], true) ∧
    after (.write 0x50#7 3#8) (mk [(0, 0x10#8), (1, 0x20#8), (2, 0x30#8)] (ans [1, 1, 1, 1])) status = some 0x08#8 := by
  decide +kernel

/-- P2: `READ 0x50, 2` on the bus; the written acknowledge stands between the bytes and none after the second. -/
theorem test_read_frame :
    marks (.read 0x50#7 2#8) (mk [] (ans [0, 1, 0, 1, 0, 0, 1, 0, 1, 0, 0, 1, 1, 1, 1, 0, 0])) =
      [.start] ++ bits [1, 0, 1, 0, 0, 0, 0, 1, 0] ++ bits [1, 0, 1, 0, 0, 1, 0, 1] ++ bits [0] ++
        bits [0, 0, 1, 1, 1, 1, 0, 0] ++ [.stop] := by decide +kernel

/-- P2: the bytes received, the status, the outputs; with `FINAL_NACK` 175 actions and the same end. -/
theorem test_read_bytes :
    after (.read 0x50#7 2#8) (mk [] (ans [0, 1, 0, 1, 0, 0, 1, 0, 1, 0, 0, 1, 1, 1, 1, 0, 0]))
        (fun t => (t.buf, status t, outs t, t.waits)) =
      some ([(0, 0xA5#8), (1, 0x3C#8)], 0x04#8, (true, true), 69) ∧
    after (.read 0x50#7 2#8)
        { mk [] (ans [0, 1, 0, 1, 0, 0, 1, 0, 1, 0, 0, 1, 1, 1, 1, 0, 0]) with finalNack := true }
        (fun t => (t.buf, t.k, t.waits)) =
      some ([(0, 0xA5#8), (1, 0x3C#8)], 175#14, 71) := by decide +kernel

/-- V80: status 0x02, outputs 1,0; P3: the recorder has seen the start and seven bits. -/
theorem test_write_begin :
    after (.writeBegin 0x3C#7) State.reset (fun t => (status t, outs t)) = some (0x02#8, true, false) ∧
      marks (.writeBegin 0x3C#7) State.reset = [.start] ++ bits [0, 1, 1, 1, 1, 0, 0] := by decide +kernel

/-- V81: a second `WRITE_BEGIN` sets `SEQ_ERR`, still 42 actions, `TXN` stays open. -/
theorem test_write_begin_twice :
    after (.writeBegin 0x3C#7) (opened [] []) (fun t => (status t, t.k)) = some (0x12#8, 42#14) := by decide +kernel

/-- P3: after `WRITE_BLOCK 2` status 0x06, outputs 1,1. -/
theorem test_write_block :
    after (.writeBlock 2#8) (opened [(0, 0xAF#8), (1, 0x01#8)] (ans [0, 0])) (fun t => (status t, outs t, t.k)) =
      some (0x06#8, (true, true), 94#14) := by decide +kernel

/-- V82: `WRITE_BLOCK 0` in IDLE: `SEQ_ERR`, no action at all. -/
theorem test_write_block_0 :
    instrTrace (.writeBlock 0#8) State.reset = [] ∧
      after (.writeBlock 0#8) State.reset (fun t => (status t, outs t)) = some (0x10#8, true, true) := by decide

/-- P3: after `WRITE_END` status 0x04, outputs 1,1. -/
theorem test_write_end :
    after .writeEnd (opened [] (ans [0])) (fun t => (status t, outs t)) = some (0x04#8, true, true) := by decide

/-- V83: in IDLE with nobody answering: `SEQ_ERR`, `NAK`, 11 actions, recorder `1 P`. -/
theorem test_write_end_in_idle :
    after .writeEnd (mk [] (ans [1])) (fun t => (status t, t.k)) = some (0x18#8, 11#14) ∧
      marks .writeEnd (mk [] (ans [1])) = [.bit true, .stop] := by decide

/-- V84, P4: a `READ` while a write transaction is open sets `SEQ_ERR`, runs, and ends in IDLE. -/
theorem test_breach :
    after (.read 0x10#7 1#8) (opened [] (ans [0, 0, 1, 1, 1, 1, 1, 1, 0]))
        (fun t => (status t, t.buf, goodFinal t)) = some (0x14#8, [(0, 0x7E#8)], false) := by decide +kernel

/-- V87, P5: `NAK` is per transaction. -/
theorem test_probe_twice :
    after (.write 0x27#7 0#8) (mk [] (ans [1])) status = some 0x08#8 ∧
      after (.write 0x27#7 0#8) { mk [] (ans [0]) with nak := true } status = some 0x04#8 := by decide +kernel

/-- V68, V73, V74: lengths. -/
theorem test_lengths :
    actionCount false (.write 0#7 255#8) = 12038 ∧ waitCount false (.write 0#7 255#8) = 4864 ∧
      sampleCount (.write 0#7 255#8) = 256 ∧ bitPulses false (.write 0#7 255#8) = 2304 ∧
      actionCount false (.read 0#7 255#8) = 15603 ∧ waitCount false (.read 0#7 255#8) = 6647 ∧
      sampleCount (.read 0#7 255#8) = 2041 ∧ bitPulses false (.read 0#7 255#8) = 2303 ∧
      actionCount true (.read 0#7 2#8) = 175 ∧ bitPulses true (.read 0#7 2#8) = 27 ∧
      actionCount true (.read 0#7 0#8) = 53 := by decide

/-! The step -/

/-- V85, V86: the word 0x00000 raises `ILL_CMD` and nothing else; `SEQ_ERR` is not set with a transaction open. -/
theorem test_illegal_word :
    afterStep (sched [.present 0x00000#20]) (fun t => (status t, t.busy, t.moves)) = some (0x20#8, false, []) ∧
      afterStep { opened [] [] with moves := [.call 0x00000#20] } status = some 0x22#8 := by decide

/-- Acceptance (R95): `BUSY` is up, `K` is 0, the latch is loaded, the outputs have not moved. -/
theorem test_acceptance :
    afterStep (sched [.present 0x15003#20]) (fun t => (t.busy, t.k, outs t)) = some (true, 0#14, true, true) ∧
      afterStep (sched [.present 0x15003#20]) (fun t => (t.opr, t.addrr, t.nr)) = some (1#4, 0x50#7, 3#8) := by
  decide +kernel

/-- While `BUSY = 1` a second command waits and the step is the block's: the first action, `D0` (R246, R164). -/
theorem test_waiting_request :
    afterStep { sched [.present 0x50000#20] with busy := true, todo := writeStartScript, nak := true }
        (fun t => (t.moves, outs t, t.k, t.nak)) =
      some ([.present 0x50000#20], (true, false), 1#14, false) := by decide

/-- The last action completes the command in the same step (R98). -/
theorem test_last_action :
    afterStep { sched [] with busy := true, todo := [.act (.sda (.const true)), .upd (.setTxn .idle)], txn := .writeOpen }
        (fun t => (t.busy, t.txn, t.todo)) = some (false, .idle, []) := by decide

/-- A host write and a host read of BUF (R62), and one that waits (R75). -/
theorem test_host_buf :
    afterStep (sched [.bufWrite 5#8 0xAB#8]) State.buf = some [(5, 0xAB#8)] ∧
      afterStep { sched [.bufRead 5#8] with buf := [(5, 0xAB#8)] } State.bufRdata = some 0xAB#8 ∧
      afterStep { sched [.bufWrite 5#8 0xAB#8] with busy := true, todo := [.act .wait] }
          (fun t => (t.buf, t.moves, t.busy)) = some ([], [.bufWrite 5#8 0xAB#8], false) := by decide

/-- A write keeps the list in order and one entry for each index. -/
theorem test_buf_canonical :
    (bufSet 3#8 7#8 (mk [(1, 0#8), (5, 1#8)] [])).buf = [(1, 0#8), (3, 7#8), (5, 1#8)] ∧
      (bufSet 5#8 7#8 (mk [(1, 0#8), (5, 1#8)] [])).buf = [(1, 0#8), (5, 7#8)] ∧
      Memory.wf [(1, 0#8), (3, 7#8), (5, 1#8)] = true ∧ Memory.wf [(3, 0#8), (3, 7#8)] = false ∧
      Memory.wf [(256, 0#8)] = false := by decide

/-- The status is read while the block runs (R30): `BUSY` and `TXN` show. -/
theorem test_status_read :
    afterStep { opened [] [] with busy := true, todo := [.act .wait], moves := [.readStatus] }
        (fun t => (t.statusRead, t.todo)) = some (0x03#8, [.act .wait]) := by decide

/-- Each row's word is executed as the first instruction after reset: the command words. -/
theorem test_with_fetch_word_commands :
    step (State.reset.withFetchWord 24 0x10000) = exec (.write 0#7 0#8) State.reset ∧
      step (State.reset.withFetchWord 24 0x20000) = exec (.read 0#7 0#8) State.reset ∧
      step (State.reset.withFetchWord 24 0x30000) = exec (.writeBegin 0#7) State.reset ∧
      step (State.reset.withFetchWord 24 0x40000) = exec (.writeBlock 0#8) State.reset ∧
      step (State.reset.withFetchWord 24 0x50000) = exec .writeEnd State.reset := ⟨rfl, rfl, rfl, rfl, rfl⟩

/-- The same for order words. -/
theorem test_with_fetch_word_orders :
    step (State.reset.withFetchWord 16 0x100) = exec .waitHalfPeriod State.reset ∧
      step (State.reset.withFetchWord 16 0x201) = exec (.writeBit true) State.reset ∧
      step (State.reset.withFetchWord 16 0x300) = exec .readBit State.reset ∧
      step (State.reset.withFetchWord 16 0x400) = exec .writeStart State.reset ∧
      step (State.reset.withFetchWord 16 0x500) = exec .writeStop State.reset ∧
      step (State.reset.withFetchWord 16 0x600) = exec .readAck State.reset ∧
      step (State.reset.withFetchWord 16 0x700) = exec .writeAck State.reset ∧
      step (State.reset.withFetchWord 16 0x800) = exec .writeNack State.reset ∧
      step (State.reset.withFetchWord 16 0x9FF) = exec (.writeByte 0xFF#8) State.reset ∧
      step (State.reset.withFetchWord 16 0xA00) = exec .readByte State.reset :=
  ⟨rfl, rfl, rfl, rfl, rfl, rfl, rfl, rfl, rfl, rfl⟩

/-- An order word that names nothing is refused by name. -/
theorem test_unnamed_order :
    (match step (State.reset.withFetchWord 16 0xB00) with
      | .refused (.unnamedOrder w) => decide (w = 0xB00#12)
      | _ => false) = true := by decide

/-- A clock edge with `rst = 1` while a command runs (R220): the table of R40. -/
theorem test_assert_rst :
    let t := assertRst { opened [(0, 1#8)] [] with busy := true, todo := [.act .wait], nak := true, seqErr := true, k := 9 }
    outs t = (true, true) ∧ status t = 0x00#8 ∧ t.k = 0#14 ∧ t.todo = [] ∧ t.buf = [(0, 1#8)] := by decide

/-- R220, R246: a command presented while `rst = 1` waits, the registers going to the table; it is accepted once `rst` is
low. -/
theorem test_rst_held :
    afterStep (holdRst { sched [.present 0x50000#20] with busy := true, todo := [.act .wait], seqErr := true })
        (fun t => (status t, t.todo, t.moves, cmdReady t)) = some (0x00#8, [], [.present 0x50000#20], false) ∧
      afterStep (holdRst (sched [.rstLow, .present 0x50000#20])) (fun t => (t.rst, cmdReady t, t.moves)) =
        some (false, true, [.present 0x50000#20]) ∧
      (cmdReady State.reset, cmdReady (holdRst State.reset), bufReady (holdRst State.reset)) = (true, false, false) := by
  decide

/-! Witnesses: for every statement with hypotheses, a state and operands that meet them all -/

/-- DecodingAnEncodedInstructionGivesItBack, EncodingADecodedWordGivesItBack. -/
theorem test_witness_encoding :
    (Instr.read 0x7F#7 0#8).WellFormed ∧ (Instr.writeByte 0#8).WellFormed ∧
      decode (.order 0x900#12) = .ok (.writeByte 0#8) ∧ decode (.command 0x27F00#20) = .ok (.read 0x7F#7 0#8) := by decide

/-- LegalWordsAreTheWordsThatMatchARow, IllegalWordsAreTheListOfR97: a row and a word it accepts, at the ends of the row. -/
theorem test_witness_rows :
    (Instr.writeBlock 0#8).row ∈ commandRows ∧ (Instr.writeBlock 0#8).row.accepts (0x40000#20).toNat = true ∧
      (Instr.writeBlock 0#8).row.accepts (0x400FF#20).toNat = true ∧
      (Instr.writeBlock 0#8).row.accepts (0x40100#20).toNat = false ∧
      decodeCommand 0x400FF#20 = .ok (.writeBlock 255#8) := by decide

/-- NothingIsAcceptedWhileRstIsHigh: every clause's premise, with a buffer request at the port and with none. -/
theorem test_witness_rst :
    (holdRst (sched [])).rst = true ∧ (holdRst (sched [])).moves = [] ∧ moveWaits (.bufRead 0#8) = true ∧
      (holdRst (sched [.bufRead 0#8])).rst = true ∧ (holdRst (sched [.pass])).moves = [.pass] ∧
      (holdRst (sched [.rstLow])).moves = [.rstLow] := by decide

/-- StepExecutesTheCalledCommand. -/
theorem test_witness_called :
    let s := sched [.call 0x50000#20]
    s.rst = false ∧ s.order = none ∧ s.moves = [.call 0x50000#20] ∧ s.busy = false ∧ decode (.command 0x50000#20) = .ok .writeEnd := by
  decide

/-- StepExecutesTheOrderWord, both clauses. -/
theorem test_witness_order :
    (State.reset.withFetchWord 16 0x100).rst = false ∧ (State.reset.withFetchWord 16 0x0FF).rst = false ∧
      (State.reset.withFetchWord 16 0x100).order = some 0x100#12 ∧ decode (.order 0x100#12) = .ok .waitHalfPeriod ∧
      (State.reset.withFetchWord 16 0x0FF).order = some 0x0FF#12 ∧
      decode (.order 0x0FF#12) = .error (.unnamedUop 0#4) := by decide

/-- AcceptanceLoadsTheLatchAndPerformsNoAction: a command with actions, and `WRITE_BLOCK 0`. -/
theorem test_witness_acceptance :
    (sched [.present 0x40001#20]).rst = false ∧ (sched [.present 0x40001#20]).order = none ∧
      (sched [.present 0x40001#20]).busy = false ∧ decodeCommand 0x40001#20 = .ok (.writeBlock 1#8) ∧ headerOf (.writeBlock 1#8) = some (writeBlockHeader 1#8) ∧
      0 < actionCount false (.writeBlock 1#8) ∧ decodeCommand 0x40000#20 = .ok (.writeBlock 0#8) ∧
      actionCount false (.writeBlock 0#8) = 0 := by decide

/-- IllegalWordOnlyRaisesIllCmd, presented and called. -/
theorem test_witness_illegal :
    (sched [.present 0x58000#20]).busy = false ∧ (sched [.call 0x60000#20]).rst = false ∧ (sched [.call 0x60000#20]).order = none ∧
      decodeCommand 0x58000#20 = .error .zSet ∧ decodeCommand 0x60000#20 = .error (.reservedOp 6#4) := by decide

/-- RequestsWaitWhileBusy: each kind of request that waits; HostReadsAndWritesBufWhileIdle, the clause for `BUSY = 1`. -/
theorem test_witness_waiting :
    let s := { sched [.bufRead 0#8] with busy := true, todo := [.act .wait] }
    s.rst = false ∧ s.order = none ∧ s.busy = true ∧ moveWaits (.present 0#20) = true ∧ moveWaits (.call 0#20) = true ∧
      moveWaits (.bufRead 0#8) = true ∧ moveWaits (.bufWrite 0#8 0#8) = true := by decide

/-- BlockStepPerformsOneAction: the four kinds of action, with nothing after it and with more to come. -/
theorem test_witness_block_step :
    let s (r : List Micro) : State := { sched [] with busy := true, todo := r }
    (s [.act (.scl true)]).busy = true ∧ (s [.act (.sda .shrTop), .upd .shrShift, .act .wait]).todo.length = 3 ∧
      (s [.act .wait]).rst = false ∧ (s [.act .wait]).order = none ∧ (s [.act .sample, .upd .ackRecord]).moves = [] ∧
      afterStep (s [.act .sample, .upd .ackRecord]) State.busy = some false ∧
      afterStep (s [.act (.sda .shrTop), .upd .shrShift, .act .wait]) (fun t => (t.busy, t.todo)) =
        some (true, [.act .wait]) := by decide

/-- The same with the block's turn given by the schedule and with a request that waits: the update after the action is made
(the slot of V11 ends, `ACKF` falls and `NAK` rises, R45). -/
theorem test_witness_block_step_turn :
    let s (ms : List Move) : State :=
      { mk [] [true] with busy := true, todo := [.act .wait, .upd .ackRecord], smp := true, ackf := true, moves := ms }
    (s [.pass, .readStatus]).moves = [.pass, .readStatus] ∧ moveWaits (.present 0#20) = true ∧
      afterStep (s [.pass, .readStatus]) (fun t => (t.ackf, t.nak, t.busy, t.moves)) =
        some (false, true, false, [.readStatus]) ∧
      afterStep (s [.present 0#20]) (fun t => (t.ackf, t.nak, t.busy, t.moves)) =
        some (false, true, false, [.present 0#20]) := by decide

/-- IdleBlockDoesNothing. -/
theorem test_witness_idle :
    State.reset.rst = false ∧ State.reset.order = none ∧ State.reset.moves = [] ∧ State.reset.busy = false := by decide

/-- HostReadsAndWritesBufWhileIdle, both clauses, at index 255. -/
theorem test_witness_host_buf :
    (sched [.bufWrite 255#8 1#8]).busy = false ∧ (sched [.bufWrite 255#8 1#8]).rst = false ∧ (sched [.bufWrite 255#8 1#8]).order = none ∧
      bufByte (bufSet 255#8 1#8 State.reset) 255#8 = 1#8 ∧ (0#8 : Byte) ≠ 255#8 ∧
      (sched [.bufRead 255#8]).moves = [.bufRead 255#8] := by decide

/-- StatusVectorShowsTheFlagsAtAnyTime and EnvironmentMovesAtAnyTime, while the block runs. -/
theorem test_witness_any_time :
    let s (m : Move) : State := { sched [m] with busy := true, todo := [.act .wait] }
    (s .readStatus).order = none ∧ (s .readStatus).moves = [.readStatus] ∧
      (s (.envMove false false)).moves = [.envMove false false] ∧
      afterStep (s (.envMove false false)) (fun t => (sclLine t, sdaLine t, outs t)) = some (false, false, true, true) := by
  decide

/-- SampleIsTheWiredAnd: the data output low, the environment's line high. -/
theorem test_witness_sample : ({ mk [] [true] with sdaOut := false }).sdaOut = false := by decide

/-- DataChangesOnlyWhileTheClockIsLow. -/
theorem test_witness_stable :
    (Instr.writeByte 0x55#8).isCommand = false ∧ Instr.readAck ≠ .writeStart ∧ Instr.readAck ≠ .writeStop ∧
      dataStableWhileHigh true true (instrTrace .writeStart State.reset) = false := by decide

/-- ReadByteReturnsWhatWriteByteSent: the loop of V22. -/
theorem test_witness_round_trip :
    dataOf (instrTrace (.writeByte 0xA0#8) State.reset) =
      ((List.range 8).map (answerAt (mk [] (ans [1, 0, 1, 0, 0, 0, 0, 0])))).map Bool.toNat := by decide +kernel

/-- The five commands' result statements: `BUSY = 0`. WriteIsBeginBlockEnd: `TXN = IDLE` too. -/
theorem test_witness_commands :
    State.reset.busy = false ∧ State.reset.txn = .idle ∧ (opened [] []).busy = false ∧ (opened [] []).txn = .writeOpen := by
  decide

/-- ZeroLengthCommands. -/
theorem test_witness_zero_length :
    (sched [.present 0x40000#20]).rst = false ∧ (sched [.present 0x40000#20]).order = none ∧
      (sched [.present 0x40000#20]).busy = false ∧ (sched [.present 0x40000#20]).moves = [.present 0x40000#20] := by decide

/-- FinalNackOnlyAddsOneSlotToRead: a read of one byte for the first clause; for the second a read of none. -/
theorem test_witness_final_nack :
    (1#8 : Byte) ≠ 0#8 ∧ ∀ a n, Instr.read 0#7 0#8 = .read a n → n = 0#8 := by
  refine ⟨by decide, ?_⟩
  rintro a n ⟨⟩
  rfl

/-- PreconditionCheckOnlyRaisesSeqErr, where the check raises and where it does not. -/
theorem test_witness_precondition :
    headerOf (.write 0#7 0#8) = some (writeHeader 0#7 0#8) ∧ (writeHeader 0#7 0#8).pre = State.reset.txn ∧
      writeEndHeader.pre ≠ State.reset.txn := by decide

/-- BitsLoadsAndStoresOfEveryCommand, OperationsLastAtLeastTheirWaits, BlockNeverTouchesTheLastByteOfBuf. -/
theorem test_witness_exec :
    (Instr.writeBlock 255#8).isCommand = true ∧ after .waitHalfPeriod State.reset State.waits = some 1 ∧
      (∀ a n, Instr.writeEnd ≠ .read a n) := by
  refine ⟨rfl, by decide, ?_⟩
  rintro a n ⟨⟩

/-- SamplesDecideNoAction: two states with the same `BUF[0]`, different answers and different `BUF[1]`. -/
theorem test_witness_samples :
    let s := mk [(0, 1#8), (1, 2#8)] [false]
    let s' := mk [(0, 1#8), (1, 3#8)] [true]
    headerOf (.write 0#7 1#8) = some (writeHeader 0#7 1#8) ∧ s.finalNack = s'.finalNack ∧ s ≠ s' ∧
      ∀ x : Byte, x < (writeHeader 0#7 1#8).n → bufByte s x = bufByte s' x := by
  refine ⟨rfl, rfl, by decide, ?_⟩
  intro x hx
  have h : x = 0#8 := by
    have : x.toNat < 1 := hx
    apply BitVec.eq_of_toNat_eq
    show x.toNat = 0
    omega
  subst h
  rfl

/-- BlockStepsDoWhatExecDoes, BusyUntilTheLastAction at both ends of its range. -/
theorem test_witness_block_steps :
    (sched [.present 0x50000#20]).rst = false ∧ (sched [.present 0x50000#20]).order = none ∧
      (sched [.present 0x50000#20]).busy = false ∧ decodeCommand 0x50000#20 = .ok .writeEnd ∧ headerOf .writeEnd = some writeEndHeader ∧
      (runBlock 10 (beginCommand .writeEnd State.reset)).busy = true ∧
      (runBlock 11 (beginCommand .writeEnd State.reset)).busy = false ∧ 11 ≤ actionCount false .writeEnd := by decide

/-- TxnChangesInTheStepsOfR167 where its ranges meet: the 41st and 42nd step of `WRITE_BEGIN`, the 10th and 11th of
`WRITE_END`. -/
theorem test_witness_txn_steps :
    (runBlock 41 (beginCommand (.writeBegin 0#7) State.reset)).txn = .idle ∧
      (runBlock 42 (beginCommand (.writeBegin 0#7) State.reset)).txn = .writeOpen ∧
      (runBlock 10 (beginCommand .writeEnd (opened [] []))).txn = .writeOpen ∧
      (runBlock 11 (beginCommand .writeEnd (opened [] []))).txn = .idle := by decide +kernel

/-- The same for `WRITE a, 0` (42nd and last step) and for `READ a, 0` begun while a transaction is open. -/
theorem test_witness_txn_steps_whole :
    (runBlock 41 (beginCommand (.write 0#7 0#8) State.reset)).txn = .idle ∧
      (runBlock 42 (beginCommand (.write 0#7 0#8) State.reset)).txn = .writeOpen ∧
      (runBlock 52 (beginCommand (.write 0#7 0#8) State.reset)).txn = .writeOpen ∧
      (runBlock 53 (beginCommand (.write 0#7 0#8) State.reset)).txn = .idle ∧
      (runBlock 52 (beginCommand (.read 0#7 0#8) (opened [] []))).txn = .writeOpen ∧
      (runBlock 53 (beginCommand (.read 0#7 0#8) (opened [] []))).txn = .idle := by decide +kernel

/-- AckFlagsChangeInTheStepsOfR45 where its ranges meet: the slot of `WRITE_END` ends with its 7th action, that of
`WRITE_BLOCK` too and the next with the 54th. -/
theorem test_witness_ack_steps :
    let s := { opened [] (ans [1, 0]) with ackf := true }
    let flags (t : State) : Bool × Bool := (t.ackf, t.nak)
    headerOf .writeEnd = some writeEndHeader ∧ headerOf (.writeBlock 2#8) = some (writeBlockHeader 2#8) ∧
      flags (runBlock 6 (beginCommand .writeEnd s)) = (true, false) ∧
      flags (runBlock 7 (beginCommand .writeEnd s)) = (false, true) ∧
      flags (runBlock 6 (beginCommand (.writeBlock 2#8) s)) = (true, false) ∧
      flags (runBlock 7 (beginCommand (.writeBlock 2#8) s)) = (false, true) ∧
      flags (runBlock 53 (beginCommand (.writeBlock 2#8) s)) = (false, true) ∧
      flags (runBlock 54 (beginCommand (.writeBlock 2#8) s)) = (true, true) := by decide +kernel

/-- The same for `READ`, whose only slot ends with the 49th action, and for the first action of `write_start`, which clears
`NAK`. -/
theorem test_witness_ack_steps_read :
    let s := { mk [] (ans [1]) with ackf := true, nak := true }
    let flags (t : State) : Bool × Bool := (t.ackf, t.nak)
    headerOf (.read 0#7 1#8) = some (readHeader 0#7 1#8) ∧
      flags (runBlock 0 (beginCommand (.read 0#7 1#8) s)) = (true, true) ∧
      flags (runBlock 1 (beginCommand (.read 0#7 1#8) s)) = (true, false) ∧
      flags (runBlock 48 (beginCommand (.read 0#7 1#8) s)) = (true, false) ∧
      flags (runBlock 49 (beginCommand (.read 0#7 1#8) s)) = (false, true) := by decide +kernel

/-- BufChangesInTheStepsThatEndAByteRead where its ranges meet: the first byte is stored in step 105 (2 for the start, 40
for the control byte, 7 for the slot, 56 for `read_byte`), the second 5 + 56 steps later. -/
theorem test_witness_buf_steps :
    let s := mk [] (ans [0, 1, 0, 1, 0, 0, 1, 0, 1, 0, 0, 1, 1, 1, 1, 0, 0])
    let t := beginCommand (.read 0#7 2#8) s
    (runBlock 104 t).buf = [] ∧ (runBlock 105 t).buf = [(0, 0xA5#8)] ∧ (runBlock 165 t).buf = [(0, 0xA5#8)] ∧
      (runBlock 166 t).buf = [(0, 0xA5#8), (1, 0x3C#8)] ∧ headerOf (.writeBlock 1#8) = some (writeBlockHeader 1#8) ∧
      ∀ a n, Instr.writeBlock 1#8 ≠ .read a n := by
  refine ⟨?_, ?_, ?_, ?_, rfl, ?_⟩
  · decide +kernel
  · decide +kernel
  · decide +kernel
  · decide +kernel
  · rintro a n ⟨⟩

/-- RunEndsWhenTheHostHasNoFurtherStep: moves of the environment do not keep a run from ending, nor `NAK` its end from being
good; a status read to come does, and `BUSY` (R245). -/
theorem test_run_ended :
    goodFinal { sched [.envMove false true, .pass] with nak := true } = true ∧ runEnded (sched [.readStatus]) = false ∧
      runEnded { sched [] with busy := true, todo := [.act .wait] } = false ∧ Inv { sched [.pass] with nak := true } ∧
      runEnded { sched [] with illCmd := true } = true ∧ goodFinal { sched [] with illCmd := true } = false := by decide

/-- EveryStepKeepsTheInvariant, StickyFlagsAndParameterStay: a state of the invariant in which the block runs. -/
theorem test_witness_invariant :
    let s := { sched [] with busy := true, todo := [.act (.sda (.const true))], seqErr := true, illCmd := true, sdaOut := false }
    Inv s ∧ s.rst = false ∧ afterStep s (fun t => (t.seqErr, t.illCmd, t.busy)) = some (true, true, false) := by decide

/-- LinesAreReleasedBetweenTransactions: the premises of both clauses hold together. -/
theorem test_witness_lines :
    Inv State.reset ∧ State.reset.busy = false ∧ State.reset.txn = .idle ∧ State.reset.seqErr = false ∧
      goodFinal State.reset = true ∧ Inv (opened [] []) ∧ (opened [] []).sdaOut = false := by decide

/-- SeqErrTellsTheOrderOfCommands: a sequence in order, and one that is not. -/
theorem test_witness_order_of_commands :
    (∀ i ∈ [Instr.writeBegin 0#7, .writeBlock 1#8, .writeEnd], i.isCommand = true) ∧
      legalOrder .idle [.writeBegin 0#7, .writeBlock 1#8, .writeEnd, .read 0#7 1#8] = true ∧
      legalOrder .idle [.writeBegin 0#7, .read 0#7 1#8] = false ∧ legalOrder .idle [.writeEnd] = false := by decide

/-- BufReadsAfterWrites: two different indices, the first and the last. -/
theorem test_witness_buf : (0#8 : Byte) ≠ 255#8 ∧ bufByte (bufSet 0#8 9#8 (bufSet 255#8 8#8 State.reset)) 255#8 = 8#8 := by
  decide

end Sys2Proof.Tests
end

section
/-! SUPPORT. The bits of the status vector (spec/10_state.md rule R30), and the step of a move that is enabled
(spec/70_reset_and_hazards.md rule R246). -/

namespace Sys2Proof.Machine

theorem txnBit_eq_true_iff (t : Txn) : txnBit t = true ↔ t = .writeOpen := by
  cases t <;> decide

/-- R30 as a list: the status bits from bit 0 up. -/
theorem status_eq_ofBoolListLE (s : State) :
    status s = BitVec.ofBoolListLE [s.busy, txnBit s.txn, s.ackf, s.nak, s.seqErr, s.illCmd, false, false] := rfl

/-- Bit `i` of the status vector is the `i`-th flag of R30; beyond the flags it is 0. -/
theorem status_getLsbD (s : State) (i : Nat) :
    (status s).getLsbD i =
      [s.busy, txnBit s.txn, s.ackf, s.nak, s.seqErr, s.illCmd, false, false].getD i false := by
  rw [status_eq_ofBoolListLE]
  exact BitVec.getLsbD_ofBoolListLE

/-! The step of an enabled move -/

/-- A step that executes no instruction is the state `fetch` answers. -/
theorem step_of_fetch_done {s t : State} (h : fetch s = .done t) : step s = .next t := by
  simp only [step, h]

/-- The move at the head of the schedule is taken when the ports are ready or it is one that never waits (R246). -/
theorem fetch_of_enabled_move {s : State} {m : Move} {ms : List Move} (ho : s.rst = true ∨ s.order = none)
    (hm : s.moves = m :: ms) (he : portsReady s = true ∨ moveWaits m = false) :
    fetch s = takeMove m { s with moves := ms } := by
  have hw : (!portsReady s && moveWaits m) = false := by
    rcases he with he | he <;> simp [he]
  rw [fetch_eq_fetchMove ho]
  simp [fetchMove, hm, hw]

/-- A status read is taken whatever `BUSY` and `rst` are, and changes nothing but the value the host got. -/
theorem step_readStatus {s : State} {ms : List Move} (ho : s.rst = true ∨ s.order = none)
    (hm : s.moves = .readStatus :: ms) : step s = .next { s with moves := ms, statusRead := status s } :=
  step_of_fetch_done (fetch_of_enabled_move ho hm (.inr rfl))

/-- Settles O18: the flags of R30 read off bit by bit, and a status read as a move that never waits. -/
theorem statusVectorShowsTheFlagsAtAnyTime : Obligations.StatusVectorShowsTheFlagsAtAnyTime := by
  refine ⟨fun s => ?_, fun s ms ho hm => step_readStatus (.inr ho) hm⟩
  simp only [status_getLsbD, ← txnBit_eq_true_iff]
  exact ⟨rfl, Iff.rfl, rfl, rfl, rfl, rfl, rfl, rfl⟩

end Sys2Proof.Machine
end

section
/-! SUPPORT. Legal and illegal command words (spec/30_encoding.md rules R93, R96, R97): a word as its four fields, the
match of a row as a condition on the fields, and the words that decode. -/

namespace Sys2Proof

/-! A word is its fields -/

/-- A word is put together from `op`, `Z = 0`, `a` and `n` exactly when these are its fields. -/
theorem eq_commandWord_iff (w : CmdWord) (op : BitVec 4) (a : SlaveAddr) (n : Byte) :
    w = commandWord op a n ↔ fieldOp w = op ∧ fieldZ w = false ∧ fieldAddr w = a ∧ fieldN w = n := by
  constructor
  · rintro rfl
    exact ⟨fieldOp_commandWord .., fieldZ_commandWord .., fieldAddr_commandWord .., fieldN_commandWord ..⟩
  · rintro ⟨rfl, hz, rfl, rfl⟩
    exact (commandWord_fields w hz).symm

theorem fieldOp_and (w m : CmdWord) : fieldOp (w &&& m) = fieldOp w &&& fieldOp m := BitVec.extractLsb'_and

theorem fieldZ_and (w m : CmdWord) : fieldZ (w &&& m) = (fieldZ w && fieldZ m) := BitVec.getLsbD_and

theorem fieldAddr_and (w m : CmdWord) : fieldAddr (w &&& m) = fieldAddr w &&& fieldAddr m := BitVec.extractLsb'_and

theorem fieldN_and (w m : CmdWord) : fieldN (w &&& m) = fieldN w &&& fieldN m := BitVec.extractLsb'_and

/-! The match of a row -/

/-- `w & mask = match` may be read on the words themselves. -/
theorem accepts_iff_and_eq (w v m : CmdWord) :
    Row.accepts ⟨20, v.toNat, m.toNat⟩ w.toNat = true ↔ w &&& m = v := by
  simp only [Row.accepts, w.isLt, decide_true, Bool.true_and, decide_eq_true_eq, ← BitVec.toNat_and, BitVec.toNat_inj]

/-- A row whose mask covers `OP` and `Z` fixes `OP`, wants `Z = 0`, and wants 0 in the operand bits its mask covers. -/
theorem accepts_iff_fields {w m : CmdWord} {v k : Nat} (op : BitVec 4) (a : SlaveAddr) (n : Byte)
    (hv : (commandWord op 0#7 0#8).toNat = v) (hk : m.toNat = k)
    (hm : fieldOp m = 0xF#4 ∧ fieldZ m = true ∧ fieldAddr m = a ∧ fieldN m = n) :
    Row.accepts ⟨20, v, k⟩ w.toNat = true ↔
      fieldZ w = false ∧ fieldOp w = op ∧ fieldAddr w &&& a = 0#7 ∧ fieldN w &&& n = 0#8 := by
  subst hv hk
  obtain ⟨hop, hz, rfl, rfl⟩ := hm
  rw [accepts_iff_and_eq, eq_commandWord_iff, fieldOp_and, fieldZ_and, fieldAddr_and, fieldN_and, hop, hz,
    show 0xF#4 = BitVec.allOnes 4 from rfl, BitVec.and_allOnes, Bool.and_true, and_left_comm]

/-! The words that decode -/

/-- The opcode map of R91 with the zero fields of R93, read from the result: which words decode, and to what. -/
theorem decodeCommand_eq_ok_iff (w : CmdWord) (i : Instr) :
    decodeCommand w = .ok i ↔
      fieldZ w = false ∧
        ((fieldOp w = 0x1#4 ∧ .write (fieldAddr w) (fieldN w) = i) ∨
          (fieldOp w = 0x2#4 ∧ .read (fieldAddr w) (fieldN w) = i) ∨
          (fieldOp w = 0x3#4 ∧ fieldN w = 0#8 ∧ .writeBegin (fieldAddr w) = i) ∨
          (fieldOp w = 0x4#4 ∧ fieldAddr w = 0#7 ∧ .writeBlock (fieldN w) = i) ∨
          (fieldOp w = 0x5#4 ∧ fieldAddr w = 0#7 ∧ fieldN w = 0#8 ∧ .writeEnd = i)) := by
  unfold decodeCommand
  split_ifs <;> simp [*]

/-- Either a word decodes or it is rejected. -/
theorem decodeCommand_isError_iff (w : CmdWord) :
    (∃ e, decodeCommand w = .error e) ↔ ¬ ∃ i, decodeCommand w = .ok i := by
  cases decodeCommand w <;> simp

/-- The reserved values of `OP` are those that name no command (R91, R97). -/
theorem reservedOpcode_iff (op : BitVec 4) :
    (op = 0x0#4 ∨ 0x6#4 ≤ op) ↔ op ≠ 0x1#4 ∧ op ≠ 0x2#4 ∧ op ≠ 0x3#4 ∧ op ≠ 0x4#4 ∧ op ≠ 0x5#4 := by
  revert op
  decide

/-- `OP` names one of the five commands or is none of their values. -/
theorem opcode_cases (op : BitVec 4) :
    op = 0x1#4 ∨ op = 0x2#4 ∨ op = 0x3#4 ∨ op = 0x4#4 ∨ op = 0x5#4 ∨
      (op ≠ 0x1#4 ∧ op ≠ 0x2#4 ∧ op ≠ 0x3#4 ∧ op ≠ 0x4#4 ∧ op ≠ 0x5#4) := by
  tauto

/-- A row of R93 accepts exactly the words that decode to its command: both say `Z = 0`, the row's `OP`, and 0 in the
operand fields the command does not use. -/
theorem accepts_iff_decodes (w : CmdWord) {r : Row} (hr : r ∈ commandRows) :
    r.accepts w.toNat = true ↔ ∃ i, decodeCommand w = .ok i ∧ i.row = r := by
  have covered7 (x : BitVec 7) : x &&& 0x7F#7 = x := BitVec.and_allOnes
  have covered8 (x : BitVec 8) : x &&& 0xFF#8 = x := BitVec.and_allOnes
  simp only [decodeCommand_eq_ok_iff, and_or_left, or_and_right, exists_or]
  simp only [commandRows, List.mem_cons, List.not_mem_nil, or_false] at hr
  obtain rfl | rfl | rfl | rfl | rfl := hr
  · refine (accepts_iff_fields (m := 0xF8000#20) 0x1#4 0#7 0#8 rfl rfl (by decide)).trans ?_
    simp [Instr.row]
  · refine (accepts_iff_fields (m := 0xF8000#20) 0x2#4 0#7 0#8 rfl rfl (by decide)).trans ?_
    simp [Instr.row]
  · refine (accepts_iff_fields (m := 0xF80FF#20) 0x3#4 0#7 0xFF#8 rfl rfl (by decide)).trans ?_
    simp [Instr.row, covered8]
  · refine (accepts_iff_fields (m := 0xFFF00#20) 0x4#4 0x7F#7 0#8 rfl rfl (by decide)).trans ?_
    simp [Instr.row, covered7]
  · refine (accepts_iff_fields (m := 0xFFFFF#20) 0x5#4 0x7F#7 0xFF#8 rfl rfl (by decide)).trans ?_
    simp [Instr.row, covered7, covered8]

/-- A decoded command word is one of the five commands, and its row one of R93's. -/
theorem isCommand_and_row_mem_of_decodeCommand {w : CmdWord} {i : Instr} (h : decodeCommand w = .ok i) :
    i.isCommand = true ∧ i.row ∈ commandRows := by
  obtain ⟨-, ⟨-, rfl⟩ | ⟨-, rfl⟩ | ⟨-, -, rfl⟩ | ⟨-, -, rfl⟩ | ⟨-, -, -, rfl⟩⟩ := (decodeCommand_eq_ok_iff w i).1 h <;>
    exact ⟨rfl, by simp [Instr.row, commandRows]⟩

/-- Settles O7: two rows that accept one word are both the row of what it decodes to. -/
theorem legalWordsAreTheWordsThatMatchARow : Obligations.LegalWordsAreTheWordsThatMatchARow := by
  refine ⟨fun w r hr => accepts_iff_decodes w hr, fun w i h => (isCommand_and_row_mem_of_decodeCommand h).2, ?_⟩
  intro w r r' hr hr' hw hw'
  obtain ⟨i, hi, rfl⟩ := (accepts_iff_decodes w hr).1 hw
  obtain ⟨i', hi', rfl⟩ := (accepts_iff_decodes w hr').1 hw'
  obtain rfl : i = i' := Except.ok.inj (hi.symm.trans hi')
  rfl

/-- Settles O8: with `Z = 1` no word decodes; with `Z = 0` the opcode decides which operand fields have to be 0. -/
theorem illegalWordsAreTheListOfR97 : Obligations.IllegalWordsAreTheListOfR97 := by
  refine ⟨fun w => ?_, fun w i h => (isCommand_and_row_mem_of_decodeCommand h).1⟩
  simp only [decodeCommand_isError_iff, decodeCommand_eq_ok_iff, reservedOpcode_iff]
  cases fieldZ w with
  | true => simp
  | false =>
    obtain h | h | h | h | h | h := opcode_cases (fieldOp w)
    · simp [h]
    · simp [h]
    · simp [h]
    · simp [h]
    · simp [h, imp_iff_not_or]
    · simp [h]

end Sys2Proof
end

section
/-! SUPPORT. The step that presents an illegal word (spec/30_encoding.md rule R96). -/

namespace Sys2Proof.Machine

/-- An illegal word, presented or called, only raises `ILL_CMD` (R96). -/
theorem takeMove_of_illegalWord {m : Move} {w : CmdWord} {e : Reject} (s : State) (hm : m = .present w ∨ m = .call w)
    (hd : decodeCommand w = .error e) : takeMove m s = .done (raiseIllCmd s) := by
  obtain rfl | rfl := hm
  · simp [takeMove, presentWord, hd]
  · simp [takeMove, callWord, hd]

/-- Settles O13: the ports are ready, so the word is taken off the schedule, and it is illegal. -/
theorem illegalWordOnlyRaisesIllCmd : Obligations.IllegalWordOnlyRaisesIllCmd := by
  intro s w ms e hr ho hm hb hd
  have ready : portsReady s = true := by simp [portsReady, hr, hb]
  have taken {m : Move} (hms : s.moves = m :: ms) (hmw : m = .present w ∨ m = .call w) :
      step s = .next (raiseIllCmd { s with moves := ms }) :=
    step_of_fetch_done ((fetch_of_enabled_move (.inr ho) hms (.inl ready)).trans (takeMove_of_illegalWord _ hmw hd))
  obtain hm | hm := hm
  · exact taken hm (.inl rfl)
  · exact taken hm (.inr rfl)

end Sys2Proof.Machine
end

section
/-! SUPPORT. `WRITE` and the three commands it stands for (spec/30_encoding.md rule R102): which entries of a script read
the command latch, and that all others do the same whatever it holds. -/

namespace Sys2Proof.Machine

/-- Whether an entry reads `ADDRR`: only the load of the control byte does (R94). No entry reads `OPR` or `NR`. -/
def readsAddrr : Micro → Bool
  | .upd (.shrLoad (.ctrl _)) => true
  | _ => false

/-- Whether an entry writes `TXN` (R167). -/
def setsTxn : Micro → Bool
  | .upd (.setTxn _) => true
  | _ => false

/-- A state with `a` for the address latch and the rest of the running command struck out: where this makes two states
equal, they differ at most in the latch, `K`, `BUSY` and the remaining work. -/
def relatched (a : SlaveAddr) (s : State) : State :=
  { s with opr := 0, addrr := a, nr := 0, k := 0, busy := false, todo := [] }

/-- The address latch holds `a`, or the script does not read it. -/
abbrev AddressIs (a : SlaveAddr) (ms : List Micro) (s : State) : Prop :=
  s.addrr = a ∨ ∀ m ∈ ms, readsAddrr m = false

variable {a : SlaveAddr} {s t : State}

/-! Scripts from states that differ in the latch -/

theorem perform_relatched {m : Micro} (h : s.addrr = a ∨ readsAddrr m = false) :
    relatched a (perform m (relatched a s)) = relatched a (perform m s) := by
  rcases m with x | u
  · cases x with
    | sda v => cases v <;> rfl
    | _ => rfl
  · cases u with
    | shrLoad src =>
      cases src with
      | ctrl rw =>
        obtain rfl := h.resolve_right (by simp [readsAddrr])
        rfl
      | _ => rfl
    | _ => rfl

theorem eventOf_relatched (x : Act) : eventOf x (relatched a s) = eventOf x s := by
  cases x with
  | sda v => cases v <;> rfl
  | _ => rfl

theorem AddressIs.head {m : Micro} {ms : List Micro} (h : AddressIs a (m :: ms) s) :
    s.addrr = a ∨ readsAddrr m = false :=
  h.imp_right fun h => h m (.head ms)

theorem AddressIs.tail {m : Micro} {ms : List Micro} (h : AddressIs a (m :: ms) s) : AddressIs a ms (perform m s) :=
  h.imp (perform_sameOutside m s).addrr.trans fun h x hx => h x (.tail m hx)

/-- States that differ in the latch alone run a script alike: the ends differ in the latch alone, the traces agree. -/
theorem runScript_congr_relatched {ms : List Micro} (hst : relatched a s = relatched a t) (hs : AddressIs a ms s)
    (ht : AddressIs a ms t) :
    relatched a (runScript ms s) = relatched a (runScript ms t) ∧ traceOf ms s = traceOf ms t := by
  induction ms generalizing s t with
  | nil => exact ⟨hst, rfl⟩
  | cons m ms ih =>
    have next : relatched a (perform m s) = relatched a (perform m t) := by
      rw [← perform_relatched hs.head, hst, perform_relatched ht.head]
    obtain ⟨ends, traces⟩ := ih next hs.tail ht.tail
    refine ⟨ends, ?_⟩
    cases m with
    | act x =>
      have event : eventOf x s = eventOf x t := by rw [← eventOf_relatched (a := a), hst, eventOf_relatched]
      exact congrArg₂ List.cons event traces
    | upd u => exact traces

/-- A state is the other one with its own latch, `K`, `BUSY` and remaining work. -/
theorem eq_of_relatched_eq (h : relatched a s = relatched a t) :
    t = { s with opr := t.opr, addrr := t.addrr, nr := t.nr, k := t.k, busy := t.busy, todo := t.todo } :=
  calc
    t = { relatched a t with
          opr := t.opr, addrr := t.addrr, nr := t.nr, k := t.k, busy := t.busy, todo := t.todo } := rfl
    _ = { relatched a s with
          opr := t.opr, addrr := t.addrr, nr := t.nr, k := t.k, busy := t.busy, todo := t.todo } := by rw [h]

/-! `TXN` along a script -/

theorem perform_txn {m : Micro} (h : setsTxn m = false) : (perform m s).txn = s.txn := by
  rcases m with x | u
  · cases x <;> rfl
  · cases u with
    | setTxn t => cases h
    | _ => rfl

theorem runScript_txn {ms : List Micro} (h : ∀ m ∈ ms, setsTxn m = false) : (runScript ms s).txn = s.txn := by
  induction ms generalizing s with
  | nil => rfl
  | cons m ms ih =>
    obtain ⟨hm, hms⟩ := List.forall_mem_cons.1 h
    exact (ih hms).trans (perform_txn hm)

theorem writeBeginScript_txn : (runScript writeBeginScript s).txn = .writeOpen := by
  rw [writeBeginScript, runScript_append]
  rfl

/-! The payload of a write neither reads the address nor writes `TXN`; its end does not read the address -/

theorem mem_of_mem_repeatScript {m : Micro} {k : Nat} {body : List Micro} (h : m ∈ repeatScript k body) : m ∈ body := by
  induction k with
  | zero => cases h
  | succ k ih => exact (List.mem_append.1 h).elim id ih

theorem writeBlockScript_plain (n : Byte) :
    ∀ m ∈ writeBlockScript n, readsAddrr m = false ∧ setsTxn m = false := by
  have body : ∀ m ∈ writeBlockBody, readsAddrr m = false ∧ setsTxn m = false := by decide
  intro m hm
  obtain rfl | hm := List.mem_cons.1 hm
  · exact ⟨rfl, rfl⟩
  · exact body m (mem_of_mem_repeatScript hm)

theorem writeEndScript_readsAddrr : ∀ m ∈ writeEndScript, readsAddrr m = false := by decide

/-! A command after another -/

/-- Acceptance where the order of commands is kept changes nothing but the latch, `K` and `BUSY` (R95, R166). -/
theorem relatched_accept {h : Header} (hp : s.txn = h.pre) : relatched a (accept h s) = relatched a s := by
  simp [accept_eq, hp, relatched]

/-- Completion changes nothing but `BUSY` and the remaining work. -/
theorem relatched_complete (ms : List Micro) : relatched a (complete ms s) = relatched a (runScript ms s) := rfl

theorem complete_txn (ms : List Micro) : (complete ms s).txn = (runScript ms s).txn := rfl

/-- `WRITE_BEGIN a` does what the first part of `WRITE a, n` does: the same address is in the latch. -/
theorem writeBegin_as_in_write (n : Byte) :
    relatched a (complete writeBeginScript (accept (writeBeginHeader a) s)) =
        relatched a (runScript writeBeginScript (accept (writeHeader a n) s)) ∧
      traceOf writeBeginScript (accept (writeBeginHeader a) s) =
        traceOf writeBeginScript (accept (writeHeader a n) s) := by
  have latched : relatched a (accept (writeBeginHeader a) s) = relatched a (accept (writeHeader a n) s) := by
    simp only [accept_eq, relatched, writeBeginHeader, writeHeader]
  have hb : (accept (writeBeginHeader a) s).addrr = a := accept_addrr s _
  have hw : (accept (writeHeader a n) s).addrr = a := accept_addrr s _
  rw [relatched_complete]
  exact runScript_congr_relatched latched (.inl hb) (.inl hw)

/-- A command accepted in its order that reads no address does what its script does at that place in a longer one. -/
theorem command_as_in_script {h : Header} {ms : List Micro} (hst : relatched a s = relatched a t)
    (hp : s.txn = h.pre) (hms : ∀ m ∈ ms, readsAddrr m = false) :
    relatched a (complete ms (accept h s)) = relatched a (runScript ms t) ∧
      traceOf ms (accept h s) = traceOf ms t := by
  rw [relatched_complete]
  exact runScript_congr_relatched ((relatched_accept hp).trans hst) (.inr hms) (.inr hms)

theorem runScript_writeScript (n : Byte) (s : State) :
    runScript (writeScript n) s =
      runScript writeEndScript (runScript (writeBlockScript n) (runScript writeBeginScript s)) := by
  rw [writeScript, runScript_append, runScript_append]

theorem traceOf_writeScript (n : Byte) (s : State) :
    traceOf (writeScript n) s =
      traceOf writeBeginScript s ++ traceOf (writeBlockScript n) (runScript writeBeginScript s) ++
        traceOf writeEndScript (runScript (writeBlockScript n) (runScript writeBeginScript s)) := by
  rw [writeScript, traceOf_append, traceOf_append, runScript_append]

/-- Settles O46: `WRITE` runs the three scripts one after another; `WRITE_BEGIN` finds the same address in the latch, and
the other two read no latch and find `TXN = WRITE_OPEN`, so their checks raise nothing. -/
theorem writeIsBeginBlockEnd : Obligations.WriteIsBeginBlockEnd := by
  intro a n s _
  obtain ⟨begin_end, begin_trace⟩ := writeBegin_as_in_write (a := a) (s := s) n
  have txn₁ : (complete writeBeginScript (accept (writeBeginHeader a) s)).txn = .writeOpen := by
    rw [complete_txn, writeBeginScript_txn]
  generalize hs₁ : complete writeBeginScript (accept (writeBeginHeader a) s) = s₁ at begin_end txn₁
  obtain ⟨block_end, block_trace⟩ := command_as_in_script (h := writeBlockHeader n) begin_end txn₁
    fun m hm => (writeBlockScript_plain n m hm).1
  have txn₂ : (complete (writeBlockScript n) (accept (writeBlockHeader n) s₁)).txn = .writeOpen := by
    rw [complete_txn, runScript_txn fun m hm => (writeBlockScript_plain n m hm).2, accept_txn, txn₁]
  generalize hs₂ : complete (writeBlockScript n) (accept (writeBlockHeader n) s₁) = s₂ at block_end txn₂
  obtain ⟨end_end, end_trace⟩ :=
    command_as_in_script (h := writeEndHeader) block_end txn₂ writeEndScript_readsAddrr
  refine ⟨s₁, s₂, complete writeEndScript (accept writeEndHeader s₂),
    complete (writeScript n) (accept (writeHeader a n) s), congrArg _ hs₁, congrArg _ hs₂, rfl, rfl, ?_, ?_⟩
  · calc traceOf (writeScript n) (accept (writeHeader a n) s)
      _ = traceOf writeBeginScript (accept (writeBeginHeader a) s) ++
            traceOf (writeBlockScript n) (accept (writeBlockHeader n) s₁) ++
            traceOf writeEndScript (accept writeEndHeader s₂) := by
        rw [traceOf_writeScript, begin_trace, block_trace, end_trace]
  · refine eq_of_relatched_eq (a := a) (end_end.trans ?_)
    rw [relatched_complete, runScript_writeScript]

end Sys2Proof.Machine
end

section
/-! SUPPORT. The two bit cells (spec/40_signal_primitives.md rules R122, R123): the state each script leaves and its trace,
from any state and, for the written bit, from either source. -/

namespace Sys2Proof.Machine

/-- The bit an `sda` action puts on the line depends on the state through `SHR` alone. -/
theorem bitOf_congr {s t : State} (x : BitSrc) (h : t.shr = s.shr) : bitOf x t = bitOf x s := by
  cases x with
  | const v => rfl
  | shrTop => exact congrArg (BitVec.getLsbD · 7) h

/-- With the data line released a sample is the environment's answer (R67). -/
theorem sampleSda_of_released {s : State} (h : s.sdaOut = true) : sampleSda s = sampled 1 s := by
  simp [sampleSda, sampled, h]

/-! The actions, with the step counted in `K` -/

theorem perform_scl (v : Bool) (s : State) : perform (.act (.scl v)) s = { s with sclOut := v, k := s.k + 1 } := rfl

theorem perform_sda (x : BitSrc) (s : State) :
    perform (.act (.sda x)) s = { s with sdaOut := bitOf x s, k := s.k + 1 } := rfl

theorem perform_wait (s : State) : perform (.act .wait) s = { s with waits := s.waits + 1, k := s.k + 1 } := rfl

theorem perform_sample_of_released {s : State} (h : s.sdaOut = true) :
    perform (.act .sample) s = { sampled 1 s with k := s.k + 1 } := by
  simp only [perform, stepAct, performAct, sampleSda_of_released h]

/-! The bit cells -/

/-- A written bit cell leaves the clock released and the bit on the data output (R122). -/
theorem runScript_writeBitScript (x : BitSrc) (s : State) :
    runScript (writeBitScript x) s =
      { s with k := s.k + 5, waits := s.waits + 2, sclOut := true, sdaOut := bitOf x s } := by
  have bit (t : State) (h : t.shr = s.shr) : bitOf x t = bitOf x s := bitOf_congr x h
  simp [writeBitScript, perform_scl, perform_sda, perform_wait, bit, BitVec.add_assoc]

theorem traceOf_writeBitScript (x : BitSrc) (s : State) : traceOf (writeBitScript x) s = writeCell (bitOf x s) := by
  have bit : bitOf x (perform (.act .wait) (perform (.act (.scl false)) s)) = bitOf x s := bitOf_congr x rfl
  simp only [writeBitScript, traceOf, eventOf, writeCell, bit]

/-- A read bit cell leaves both lines released and has taken one sample (R123). -/
theorem runScript_readBitScript (s : State) :
    runScript readBitScript s =
      { sampled 1 s with k := s.k + 7, waits := s.waits + 3, sclOut := true, sdaOut := true } := by
  simp [readBitScript, perform_scl, perform_sda, perform_wait, perform_sample_of_released, bitOf, sampled, answerAt,
    BitVec.add_assoc]

theorem traceOf_readBitScript (s : State) : traceOf readBitScript s = readCell (answerAt s 0) := by
  simp [readBitScript, traceOf, eventOf, readCell, perform_scl, perform_sda, perform_wait, bitOf, answerAt]

/-- The order word of `write_bit(x)`: `x` is bit 0 of the argument (R99). -/
theorem orderWord_writeBit (x : Bool) :
    orderWord 0x2#4 (0#7 ++ BitVec.ofBool x) = 0x200#12 ||| (BitVec.ofBool x).setWidth 12 := by
  cases x <;> decide

/-- Settles O22: `exec` runs the script of a written bit cell whose bit is the operand. -/
theorem writeBitPutsTheBitOnTheDataLine : Obligations.WriteBitPutsTheBitOnTheDataLine := by
  refine fun x s => ⟨?_, ?_, ?_⟩
  · exact (exec_eq (.writeBit x) s).trans (congrArg _ (runScript_writeBitScript (.const x) s))
  · exact traceOf_writeBitScript (.const x) s
  · exact congrArg PortWord.order (orderWord_writeBit x)

/-- Settles O23: `exec` runs the script of a read bit cell, and the one sample it takes is the environment's answer. -/
theorem readBitSamplesTheReleasedDataLine : Obligations.ReadBitSamplesTheReleasedDataLine := by
  intro s
  have result : exec .readBit s =
      .next { sampled 1 s with k := s.k + 7, waits := s.waits + 3, sclOut := true, sdaOut := true } :=
    (exec_eq .readBit s).trans (congrArg _ (runScript_readBitScript s))
  refine ⟨result, fun t ht => ?_, traceOf_readBitScript s, by decide⟩
  cases result.symm.trans ht
  rfl

end Sys2Proof.Machine
end

section
/-! SUPPORT. The byte serializer (spec/41_byte_serializer.md rules R150, R151): a loop is its body iterated, what the
iterations of the two loop bodies leave, and the result and trace of the two scripts from any state. -/

namespace Sys2Proof.Machine

/-! Loops -/

theorem runScript_repeatScript (k : Nat) (body : List Micro) (s : State) :
    runScript (repeatScript k body) s = (runScript body)^[k] s := by
  induction k generalizing s with
  | zero => rfl
  | succ k ih => rw [repeatScript, runScript_append, ih, Function.iterate_succ_apply]

/-- A loop's trace is the trace of its body from each of the states the iterations pass through. -/
theorem traceOf_repeatScript (k : Nat) (body : List Micro) (s : State) :
    traceOf (repeatScript k body) s = (List.range k).flatMap fun j => traceOf body ((runScript body)^[j] s) := by
  induction k generalizing s with
  | zero => rfl
  | succ k ih =>
    simp only [repeatScript, traceOf_append, ih, List.range_succ_eq_map, List.flatMap_cons, List.flatMap_map,
      Function.iterate_succ_apply, Function.iterate_zero, id]

/-- An order word is its operation code above its argument (R99). -/
theorem orderWord_eq_or (u : BitVec 4) (x : Byte) : orderWord u x = u.setWidth 12 <<< 8 ||| x.setWidth 12 := by
  rw [orderWord, BitVec.append_def, BitVec.shiftLeftZeroExtend_eq, BitVec.setWidth'_eq]

/-! Sending a byte (R150) -/

theorem runScript_writeByteBody (s : State) :
    runScript writeByteBody s =
      { s with
        k := s.k + 5, waits := s.waits + 2, sclOut := true, sdaOut := s.shr.getLsbD 7
        shr := s.shr <<< 1, bitc := s.bitc + 1 } := by
  rw [writeByteBody, runScript_append, runScript_writeBitScript]
  rfl

theorem traceOf_writeByteBody (s : State) : traceOf writeByteBody s = writeCell (s.shr.getLsbD 7) := by
  rw [writeByteBody, traceOf_append, traceOf_writeBitScript]
  exact List.append_nil _

/-- After one or more iterations the data output holds the bit the last of them found in `SHR[7]`. -/
theorem iterate_writeByteBody (m : Nat) (s : State) :
    (runScript writeByteBody)^[m + 1] s =
      { s with
        k := s.k + BitVec.ofNat 14 (5 * (m + 1)), waits := s.waits + 2 * (m + 1), sclOut := true
        sdaOut := (s.shr <<< m).getLsbD 7, shr := s.shr <<< (m + 1), bitc := s.bitc + BitVec.ofNat 4 (m + 1) } := by
  induction m with
  | zero => simp [runScript_writeByteBody]
  | succ m ih =>
    rw [Function.iterate_succ_apply', ih, runScript_writeByteBody]
    simp [BitVec.ofNat_add, BitVec.add_assoc, BitVec.shiftLeft_add, Nat.mul_add, Nat.add_assoc]

theorem iterate_writeByteBody_shr (j : Nat) (s : State) : ((runScript writeByteBody)^[j] s).shr = s.shr <<< j := by
  cases j with
  | zero => simp
  | succ m => rw [iterate_writeByteBody]

/-- Bit 7 of a byte shifted left `j` times is its bit `7 - j`. -/
theorem getLsbD_shiftLeft_seven (b : Byte) {j : Nat} (h : j < 8) : (b <<< j).getLsbD 7 = b.getLsbD (7 - j) := by
  have inside : ¬ 7 < j := by omega
  rw [BitVec.getLsbD_shiftLeft]
  simp [-BitVec.getLsbD_eq_getElem, inside]

/-- What sending a byte leaves, whatever its source (R150). -/
theorem runScript_writeByteScript (src : ByteSrc) (s : State) :
    runScript (writeByteScript src) s =
      { s with
        k := s.k + 40, waits := s.waits + 16, sclOut := true, sdaOut := (byteOf src s).getLsbD 0, shr := 0, bitc := 8 } := by
  rw [writeByteScript, runScript_append, runScript_repeatScript, iterate_writeByteBody 7,
    getLsbD_shiftLeft_seven _ (by decide), BitVec.shiftLeft_eq_zero (by decide)]
  rfl

theorem traceOf_writeByteScript (src : ByteSrc) (s : State) :
    traceOf (writeByteScript src) s = writeByteTrace (byteOf src s) := by
  have cell (t : State) (j : Nat) (h : j ∈ List.range 8) :
      traceOf writeByteBody ((runScript writeByteBody)^[j] t) = writeCell (t.shr.getLsbD (7 - j)) := by
    rw [traceOf_writeByteBody, iterate_writeByteBody_shr, getLsbD_shiftLeft_seven _ (List.mem_range.mp h)]
  rw [writeByteScript, traceOf_append, traceOf_repeatScript, List.flatMap_congr (cell _)]
  rfl

/-- Settles O29: `exec` runs the script of R150 with the operand as the byte's source. -/
theorem writeByteSendsEightBitsMsbFirst : Obligations.WriteByteSendsEightBitsMsbFirst := by
  refine fun x s => ⟨?_, ?_, ?_⟩
  · exact (exec_eq (.writeByte x) s).trans (congrArg _ (runScript_writeByteScript (.imm x) s))
  · exact traceOf_writeByteScript (.imm x) s
  · exact congrArg PortWord.order (orderWord_eq_or 0x9#4 x)

/-! Receiving a byte (R151) -/

/-- What `SHR` holds once the next `m` answers have been shifted in. -/
def shrAfterAnswers (s : State) : Nat → Byte
  | 0 => s.shr
  | m + 1 => (shrAfterAnswers s m <<< 1) ||| (BitVec.ofBool (answerAt s m)).setWidth 8

theorem runScript_readByteBody (s : State) :
    runScript readByteBody s =
      { sampled 1 s with
        k := s.k + 7, waits := s.waits + 3, sclOut := true, sdaOut := true
        shr := shrAfterAnswers s 1, bitc := s.bitc + 1 } := by
  rw [readByteBody, runScript_append, runScript_readBitScript]
  rfl

theorem traceOf_readByteBody (s : State) : traceOf readByteBody s = readCell (answerAt s 0) := by
  rw [readByteBody, traceOf_append, traceOf_readBitScript]
  exact List.append_nil _

/-- After one or more iterations the answers so far stand in `SHR`, and both lines are released. -/
theorem iterate_readByteBody (m : Nat) (s : State) :
    (runScript readByteBody)^[m + 1] s =
      { sampled (m + 1) s with
        k := s.k + BitVec.ofNat 14 (7 * (m + 1)), waits := s.waits + 3 * (m + 1), sclOut := true, sdaOut := true
        shr := shrAfterAnswers s (m + 1), bitc := s.bitc + BitVec.ofNat 4 (m + 1) } := by
  induction m with
  | zero => simp [runScript_readByteBody]
  | succ m ih =>
    rw [Function.iterate_succ_apply', ih, runScript_readByteBody]
    simp [shrAfterAnswers, sampled, answerAt, answerFrom_drop, List.drop_drop, BitVec.ofNat_add, BitVec.add_assoc,
      Nat.mul_add, Nat.add_assoc]

theorem answerAt_iterate_readByteBody (j i : Nat) (s : State) :
    answerAt ((runScript readByteBody)^[j] s) i = answerAt s (j + i) := by
  cases j with
  | zero => simp
  | succ m =>
    rw [iterate_readByteBody]
    exact answerAt_sampled (m + 1) i s

/-- The answers stand in `SHR` in order, the last of them in bit 0, above them what `SHR` held before. -/
theorem shrAfterAnswers_getLsbD (s : State) (m : Nat) {i : Nat} (h : i < 8) :
    (shrAfterAnswers s m).getLsbD i = if i < m then answerAt s (m - 1 - i) else s.shr.getLsbD (i - m) := by
  induction m generalizing i with
  | zero => rfl
  | succ m ih =>
    rw [shrAfterAnswers, BitVec.getLsbD_or, BitVec.getLsbD_shiftLeft]
    cases i with
    | zero => simp
    | succ i =>
      have e : m - (i + 1) = m - 1 - i := by omega
      simp [-BitVec.getLsbD_eq_getElem, h, ih (i := i) (by omega), e]

/-- The first of eight answers is bit 7 (R151). -/
theorem sampledByte_getLsbD (s : State) (j : Nat) {i : Nat} (h : i < 8) :
    (sampledByte s j).getLsbD i = answerAt s (j + (7 - i)) := by
  simp only [sampledByte, BitVec.getLsbD_append, BitVec.getLsbD_ofBool]
  interval_cases i <;> rfl

/-- Eight answers fill `SHR`: no bit of what it held before is left. -/
theorem shrAfterAnswers_eight (s : State) : shrAfterAnswers s 8 = sampledByte s 0 := by
  refine BitVec.eq_of_getLsbD_eq fun i h => ?_
  rw [shrAfterAnswers_getLsbD s 8 h, sampledByte_getLsbD s 0 h, if_pos h, Nat.zero_add]

/-- What receiving a byte leaves (R151). -/
theorem runScript_readByteScript (s : State) :
    runScript readByteScript s =
      { sampled 8 s with
        k := s.k + 56, waits := s.waits + 24, sclOut := true, sdaOut := true, shr := sampledByte s 0, bitc := 8 } := by
  rw [readByteScript, runScript_append, runScript_repeatScript, iterate_readByteBody 7, shrAfterAnswers_eight]
  rfl

theorem traceOf_readByteScript (s : State) : traceOf readByteScript s = readByteTrace s 0 := by
  rw [readByteScript, traceOf_append, traceOf_repeatScript]
  simp only [traceOf_readByteBody, answerAt_iterate_readByteBody, readByteTrace, Nat.add_zero, Nat.zero_add]
  rfl

/-- Settles O30: `exec` runs the script of R151, and eight shifts leave nothing else in `SHR` than the eight samples. -/
theorem readByteAssemblesEightSamplesMsbFirst : Obligations.ReadByteAssemblesEightSamplesMsbFirst := by
  refine fun s => ⟨?_, traceOf_readByteScript s, by decide⟩
  exact (exec_eq .readByte s).trans (congrArg _ (runScript_readByteScript s))

end Sys2Proof.Machine
end

section
/-! SUPPORT. What a command is made of besides bytes: start, stop and the acknowledge-read slot (spec/40_signal_primitives.md
rules R124 to R126) as the state each script leaves and its trace; and a command word as its fields (spec/30_encoding.md rule
R90). -/

namespace Sys2Proof.Machine

theorem perform_upd (u : Upd) (s : State) : perform (.upd u) s = applyUpd u s := rfl

theorem runScript_writeStartScript (s : State) :
    runScript writeStartScript s = { s with k := s.k + 2, nak := false, sclOut := false, sdaOut := false } := by
  simp [writeStartScript, perform_scl, perform_sda, perform_upd, applyUpd, clearNak, bitOf, BitVec.add_assoc]

theorem traceOf_writeStartScript (s : State) : traceOf writeStartScript s = startTrace := rfl

theorem runScript_writeStopScript (s : State) :
    runScript writeStopScript s = { s with k := s.k + 4, sclOut := true, sdaOut := true } := by
  simp [writeStopScript, perform_scl, perform_sda, bitOf, BitVec.add_assoc]

theorem traceOf_writeStopScript (s : State) : traceOf writeStopScript s = stopTrace := rfl

/-- An acknowledge-read slot is a read bit cell whose sample goes to the two flags (R126). -/
theorem runScript_readAckScript (s : State) :
    runScript readAckScript s =
      { sampled 1 s with
        k := s.k + 7, waits := s.waits + 3, sclOut := true, sdaOut := true
        ackf := !answerAt s 0, nak := s.nak || answerAt s 0 } := by
  rw [readAckScript, runScript_append, runScript_readBitScript]
  rfl

theorem traceOf_readAckScript (s : State) : traceOf readAckScript s = readCell (answerAt s 0) := by
  rw [readAckScript, traceOf_append, traceOf_readBitScript]
  exact List.append_nil _

/-- A command word with `Z = 0` is its fields where R90 puts them. -/
theorem commandWord_eq_or (op : BitVec 4) (a : SlaveAddr) (n : Byte) :
    commandWord op a n = (op.setWidth 20 <<< 16) ||| (a.setWidth 20 <<< 8) ||| n.setWidth 20 := by
  refine BitVec.eq_of_getLsbD_eq fun j hj => ?_
  simp only [commandWord, BitVec.getLsbD_append, BitVec.getLsbD_or, BitVec.getLsbD_shiftLeft, BitVec.getLsbD_setWidth]
  grind

theorem commandWord_address_eq_or (op : BitVec 4) (a : SlaveAddr) :
    commandWord op a 0#8 = (op.setWidth 20 <<< 16) ||| (a.setWidth 20 <<< 8) := by
  rw [commandWord_eq_or]
  exact BitVec.or_zero

theorem commandWord_count_eq_or (op : BitVec 4) (n : Byte) :
    commandWord op 0#7 n = (op.setWidth 20 <<< 16) ||| n.setWidth 20 := by
  rw [commandWord_eq_or]
  exact congrArg (· ||| n.setWidth 20) BitVec.or_zero

end Sys2Proof.Machine
end

section
/-! SUPPORT. The commands that write (spec/42_transactions.md rules R161 to R164): the state each script leaves and its
trace, from any state; the loop of `WRITE_BLOCK` as its body iterated. -/

namespace Sys2Proof.Machine

/-! The control byte (R94, R161) -/

theorem ctrlByte_getLsbD_zero (a : SlaveAddr) (rw : Bool) : (ctrlByte a rw).getLsbD 0 = rw := by
  cases rw <;> simp only [ctrlByte, BitVec.getLsbD_append] <;> rfl

/-- Start and control byte leave the direction bit on the data output. -/
theorem runScript_startAndControl (rw : Bool) (s : State) :
    runScript (writeStartScript ++ writeByteScript (.ctrl rw)) s =
      { s with
        k := s.k + 42, nak := false, waits := s.waits + 16, sclOut := true, sdaOut := rw, shr := 0, bitc := 8 } := by
  rw [runScript_append, runScript_writeStartScript, runScript_writeByteScript]
  simp [byteOf, ctrlByte_getLsbD_zero, BitVec.add_assoc, -BitVec.getLsbD_eq_getElem]

theorem traceOf_startAndControl (rw : Bool) (s : State) :
    traceOf (writeStartScript ++ writeByteScript (.ctrl rw)) s =
      startTrace ++ writeByteTrace (ctrlByte s.addrr rw) := by
  rw [traceOf_append, traceOf_writeStartScript, traceOf_writeByteScript, runScript_writeStartScript]
  rfl

theorem runScript_writeBeginScript (s : State) :
    runScript writeBeginScript s =
      { s with
        k := s.k + 42, nak := false, txn := .writeOpen, waits := s.waits + 16, sclOut := true, sdaOut := false
        shr := 0, bitc := 8 } := by
  rw [writeBeginScript, runScript_append, runScript_startAndControl]
  rfl

theorem traceOf_writeBeginScript (s : State) :
    traceOf writeBeginScript s = startTrace ++ writeByteTrace (ctrlByte s.addrr false) := by
  rw [writeBeginScript, traceOf_append, traceOf_startAndControl]
  exact List.append_nil _

/-! The payload (R162) -/

theorem runScript_writeBlockBody (s : State) :
    runScript writeBlockBody s =
      { sampled 1 s with
        k := s.k + 47, waits := s.waits + 19, sclOut := true, sdaOut := (bufByte s s.i).getLsbD 0
        ackf := !answerAt s 0, nak := s.nak || answerAt s 0, shr := 0, bitc := 8, i := s.i + 1 } := by
  rw [writeBlockBody, runScript_append, runScript_append, runScript_append, runScript_readAckScript]
  simp [runScript_writeByteScript, perform_upd, applyUpd, incI, loadShr, byteOf, bufByte, sampled, BitVec.add_assoc]

theorem traceOf_writeBlockBody (s : State) :
    traceOf writeBlockBody s = readCell (answerAt s 0) ++ writeByteTrace (bufByte s s.i) := by
  simp only [writeBlockBody, traceOf_append, runScript_append, traceOf_readAckScript, runScript_readAckScript,
    traceOf_writeByteScript]
  simp [traceOf, perform_upd, applyUpd, loadShr, byteOf, bufByte, sampled]

/-- After one or more passes the last byte's bit 0 is on the data line, and `ACKF` tells the last slot. -/
theorem iterate_writeBlockBody (m : Nat) (s : State) :
    (runScript writeBlockBody)^[m + 1] s =
      { sampled (m + 1) s with
        k := s.k + BitVec.ofNat 14 (47 * (m + 1)), waits := s.waits + 19 * (m + 1), sclOut := true
        sdaOut := (bufByte s (s.i + BitVec.ofNat 8 m)).getLsbD 0
        ackf := !answerAt s m, nak := s.nak || anySample s (m + 1)
        shr := 0, bitc := 8, i := s.i + BitVec.ofNat 8 (m + 1) } := by
  induction m with
  | zero => simp [runScript_writeBlockBody, anySample, answerAt]
  | succ m ih =>
    rw [Function.iterate_succ_apply', ih, runScript_writeBlockBody, anySample_last s (m + 1)]
    simp [bufByte, sampled, answerAt, answerFrom_drop, List.drop_drop, BitVec.ofNat_add, BitVec.add_assoc,
      Nat.mul_add, Nat.add_assoc, Bool.or_assoc]

/-- A pass of the loop reads the next answer and the next byte of BUF. -/
theorem traceOf_iterate_writeBlockBody (j : Nat) (s : State) :
    traceOf writeBlockBody ((runScript writeBlockBody)^[j] s) =
      readCell (answerAt s j) ++ writeByteTrace (bufByte s (s.i + BitVec.ofNat 8 j)) := by
  rw [traceOf_writeBlockBody]
  cases j with
  | zero => simp
  | succ m =>
    rw [iterate_writeBlockBody]
    exact congrArg (readCell · ++ _) (answerAt_sampled (m + 1) 0 s)

theorem runScript_writeBlockScript (n : Byte) (s : State) :
    runScript (writeBlockScript n) s =
      { sampled n.toNat s with
        k := s.k + BitVec.ofNat 14 (47 * n.toNat), waits := s.waits + 19 * n.toNat
        i := n
        sclOut := if n = 0#8 then s.sclOut else true
        sdaOut := if n = 0#8 then s.sdaOut else (bufByte s (n - 1)).getLsbD 0
        ackf := if n = 0#8 then s.ackf else !answerAt s (n.toNat - 1)
        nak := s.nak || anySample s n.toNat
        shr := if n = 0#8 then s.shr else 0
        bitc := if n = 0#8 then s.bitc else 8 } := by
  rw [writeBlockScript, runScript_append, runScript_repeatScript]
  by_cases hn : n = 0#8
  · subst hn
    simp [perform_upd, applyUpd, sampled, anySample]
  · obtain ⟨m, hm⟩ : ∃ m, n.toNat = m + 1 := Nat.exists_eq_succ_of_ne_zero (by simpa [BitVec.toNat_eq] using hn)
    have last : BitVec.ofNat 8 m = n - 1 := by bv_omega
    have count : BitVec.ofNat 8 (m + 1) = n := by bv_omega
    rw [hm, iterate_writeBlockBody]
    simp [hn, last, count, perform_upd, applyUpd, bufByte, sampled, answerAt, anySample]

/-- The slots of a payload depend on nothing but BUF and the coming answers. -/
theorem writeBlockTrace_congr {s t : State} (hb : t.buf = s.buf) (ha : t.answers = s.answers)
    (hs : t.samples = s.samples) (n : Nat) : writeBlockTrace t n = writeBlockTrace s n := by
  simp only [writeBlockTrace, answerAt_congr ha hs, bufByte, hb]

theorem traceOf_writeBlockScript (n : Byte) (s : State) :
    traceOf (writeBlockScript n) s = writeBlockTrace s n.toNat := by
  have fromZero : traceOf (writeBlockScript n) s = writeBlockTrace (perform (.upd .iZero) s) n.toNat := by
    simp [writeBlockScript, traceOf_repeatScript, traceOf_iterate_writeBlockBody, writeBlockTrace, traceOf,
      perform_upd, applyUpd]
  exact fromZero.trans (writeBlockTrace_congr rfl rfl rfl n.toNat)

/-! The end (R163) -/

theorem runScript_writeEndScript (s : State) :
    runScript writeEndScript s =
      { sampled 1 s with
        k := s.k + 11, waits := s.waits + 3, sclOut := true, sdaOut := true
        ackf := !answerAt s 0, nak := s.nak || answerAt s 0, txn := .idle } := by
  rw [writeEndScript, runScript_append, runScript_append, runScript_readAckScript, runScript_writeStopScript]
  simp [perform_upd, applyUpd, sampled, BitVec.add_assoc]

theorem traceOf_writeEndScript (s : State) : traceOf writeEndScript s = readCell (answerAt s 0) ++ stopTrace := by
  rw [writeEndScript, traceOf_append, traceOf_append, traceOf_readAckScript, traceOf_writeStopScript]
  exact List.append_nil _

/-! A whole write (R164) -/

/-- `NAK` starts from 0, and the last slot comes after `n` others. -/
theorem runScript_writeScript_eq (n : Byte) (s : State) :
    runScript (writeScript n) s =
      { sampled (n.toNat + 1) s with
        k := s.k + BitVec.ofNat 14 (53 + 47 * n.toNat), waits := s.waits + (19 + 19 * n.toNat), i := n
        ackf := !answerAt s n.toNat, nak := anySample s (n.toNat + 1)
        txn := .idle, sclOut := true, sdaOut := true, shr := 0, bitc := 8 } := by
  rw [runScript_writeScript, runScript_writeBeginScript, runScript_writeBlockScript, runScript_writeEndScript,
    anySample_last]
  have actions : s.k + 42#14 + BitVec.ofNat 14 (47 * n.toNat) + 11#14 = s.k + BitVec.ofNat 14 (53 + 47 * n.toNat) := by
    bv_omega
  have waits : 16 + (19 * n.toNat + 3) = 19 + 19 * n.toNat := by omega
  simp [actions, waits, sampled, answerAt, anySample, answerFrom_drop, List.drop_drop, Nat.add_assoc]

theorem traceOf_writeScript_eq (n : Byte) (s : State) :
    traceOf (writeScript n) s =
      startTrace ++ writeByteTrace (ctrlByte s.addrr false) ++ writeBlockTrace s n.toNat ++
        readCell (answerAt s n.toNat) ++ stopTrace := by
  have block : writeBlockTrace (runScript writeBeginScript s) n.toNat = writeBlockTrace s n.toNat := by
    rw [runScript_writeBeginScript]
    exact writeBlockTrace_congr rfl rfl rfl n.toNat
  have last : answerAt (runScript (writeBlockScript n) (runScript writeBeginScript s)) 0 = answerAt s n.toNat := by
    rw [runScript_writeBlockScript, runScript_writeBeginScript]
    exact answerAt_sampled n.toNat 0 s
  rw [traceOf_writeScript, traceOf_writeBeginScript, traceOf_writeBlockScript, traceOf_writeEndScript, block, last,
    ← List.append_assoc]

/-! The four commands -/

/-- A command's script begins in the accepted state. -/
theorem instrTrace_of_command {i : Instr} {h : Header} (s : State) (hh : headerOf i = some h) :
    instrTrace i s = traceOf (scriptOf s.finalNack i) (accept h s) := by
  simp only [instrTrace, enter, hh]

/-- Acceptance takes no sample. -/
@[simp] theorem answerAt_accept (h : Header) (s : State) (j : Nat) : answerAt (accept h s) j = answerAt s j :=
  answerAt_congr (accept_answers s h) (accept_samples s h) j

@[simp] theorem writeBlockTrace_accept (h : Header) (s : State) (n : Nat) :
    writeBlockTrace (accept h s) n = writeBlockTrace s n :=
  writeBlockTrace_congr (accept_buf s h) (accept_answers s h) (accept_samples s h) n

/-- Settles O32: from the accepted state, the start and the control byte with the address just latched. -/
theorem writeBeginOpensAWriteTransaction : Obligations.WriteBeginOpensAWriteTransaction := by
  refine fun a s _ => ⟨?_, ?_, congrArg PortWord.command (commandWord_address_eq_or 0x3#4 a)⟩
  · rw [exec_eq]
    simp [headerOf, scriptOf, complete, runScript_writeBeginScript, accept_eq, writeBeginHeader]
  · rw [instrTrace_of_command s rfl, scriptOf, traceOf_writeBeginScript, accept_addrr, writeBeginHeader]

/-- Settles O33: from the accepted state, the loop of R162 run `n` times. -/
theorem writeBlockSendsTheBytesOfBuf : Obligations.WriteBlockSendsTheBytesOfBuf := by
  refine fun n s _ => ⟨?_, ?_, congrArg PortWord.command (commandWord_count_eq_or 0x4#4 n)⟩
  · rw [exec_eq]
    simp [headerOf, scriptOf, complete, runScript_writeBlockScript, accept_eq, writeBlockHeader, sampled, answerAt,
      anySample, bufByte]
  · rw [instrTrace_of_command s rfl, scriptOf, traceOf_writeBlockScript, writeBlockTrace_accept]

/-- Settles O34: from the accepted state, one acknowledge-read slot and the stop condition. -/
theorem writeEndClosesTheTransaction : Obligations.WriteEndClosesTheTransaction := by
  refine fun s _ => ⟨?_, ?_, by decide⟩
  · rw [exec_eq]
    simp [headerOf, scriptOf, complete, runScript_writeEndScript, accept_eq, writeEndHeader, sampled, answerAt]
  · rw [instrTrace_of_command s rfl, scriptOf, traceOf_writeEndScript, answerAt_accept]

/-- Settles O35: the scripts of R161, R162 and R163 one after another. -/
theorem writeSendsACompleteTransaction : Obligations.WriteSendsACompleteTransaction := by
  refine fun a n s _ => ⟨?_, ?_, congrArg PortWord.command (commandWord_eq_or 0x1#4 a n)⟩
  · rw [exec_eq]
    simp [headerOf, scriptOf, complete, runScript_writeScript_eq, accept_eq, writeHeader, sampled, answerAt, anySample]
  · rw [instrTrace_of_command s rfl, scriptOf, traceOf_writeScript_eq, writeBlockTrace_accept, answerAt_accept,
      accept_addrr, writeHeader]

end Sys2Proof.Machine
end

section
/-! SUPPORT. `READ` (spec/42_transactions.md rule R165): BUF after the bytes stored so far, the state the loop and the whole
script leave, and their traces. -/

namespace Sys2Proof.Machine

/-! BUF after a store (R63) -/

theorem cellLookup_cellStore (l : List Host.Cell) (a b : Nat) (v : Byte) :
    cellLookup (cellStore l a v) b = if b = a then some v else cellLookup l b := by
  induction l with
  | nil => simp [cellStore, cellLookup, eq_comm]
  | cons c r ih =>
    by_cases hlt : a < c.1
    · simp [cellStore, cellLookup, hlt, eq_comm]
    · by_cases here : c.1 = a
      · subst here
        by_cases hb : c.1 = b
        · simp [cellStore, cellLookup, hb]
        · simp [cellStore, cellLookup, hb, Ne.symm hb]
      · have head (h : c.1 = b) : b ≠ a := h ▸ here
        simp only [cellStore, cellLookup, if_neg hlt, if_neg here, ih]
        by_cases hb : c.1 = b
        · simp only [if_pos hb, if_neg (head hb)]
        · simp only [if_neg hb]

/-- A stored byte reads back, and every other byte reads as before. -/
theorem byteIn_cellStore (l : List Host.Cell) (a x v : Byte) :
    byteIn (cellStore l a.toNat v) x = if x = a then v else byteIn l x := by
  simp only [byteIn, cellLookup_cellStore, BitVec.toNat_inj]
  split <;> rfl

/-! The bytes received -/

/-- A list of written bytes once `m` bytes have been stored one after another from index `a` on. -/
def storeBytes (l : List Host.Cell) (a : Byte) (byte : Nat → Byte) : Nat → List Host.Cell
  | 0 => l
  | m + 1 => cellStore (storeBytes l a byte m) (a + BitVec.ofNat 8 m).toNat (byte m)

/-- From index 0 on, the first `m` indexes read as the bytes stored and the others as before. -/
theorem byteIn_storeBytes (l : List Host.Cell) (byte : Nat → Byte) {m : Nat} (hm : m ≤ 256) (x : Byte) :
    byteIn (storeBytes l 0#8 byte m) x = if x.toNat < m then byte x.toNat else byteIn l x := by
  induction m with
  | zero => rfl
  | succ m ih =>
    rw [storeBytes, byteIn_cellStore, ih (by omega), BitVec.zero_add]
    by_cases hx : x = BitVec.ofNat 8 m
    · have here : x.toNat = m := by bv_omega
      rw [if_pos hx, if_pos (by omega), here]
    · have elsewhere : x.toNat < m + 1 ↔ x.toNat < m := by bv_omega
      simp only [if_neg hx, elsewhere]

/-- The slots of the bytes read depend on nothing but the coming answers. -/
theorem readBlockTrace_congr {s t : State} (h : ∀ j, answerAt t j = answerAt s j) (n : Nat) :
    readBlockTrace t n = readBlockTrace s n := by
  simp only [readBlockTrace, readByteTrace, h]

/-! The loop -/

theorem runScript_readByteStore (s : State) :
    runScript readByteStore s =
      { sampled 8 s with
        k := s.k + 56, waits := s.waits + 24, sclOut := true, sdaOut := true
        shr := sampledByte s 0, bitc := 8, i := s.i + 1, buf := cellStore s.buf s.i.toNat (sampledByte s 0) } := by
  rw [readByteStore, runScript_append, runScript_readByteScript]
  rfl

theorem traceOf_readByteStore (s : State) : traceOf readByteStore s = readByteTrace s 0 := by
  rw [readByteStore, traceOf_append, traceOf_readByteScript]
  exact List.append_nil _

theorem repeatScript_succ_append (k : Nat) (body : List Micro) :
    repeatScript (k + 1) body = repeatScript k body ++ body := by
  induction k with
  | zero => exact List.append_nil _
  | succ k ih => exact (congrArg (body ++ ·) ih).trans (List.append_assoc ..).symm

/-- After its first pass, each further pass of the loop sends an acknowledge and receives a byte. -/
theorem readLoopScript_succ (m : Nat) :
    readLoopScript (m + 2) = readLoopScript (m + 1) ++ (writeAckScript ++ readByteStore) := by
  simp only [readLoopScript, repeatScript_succ_append, List.append_assoc]

theorem runScript_readLoopScript (m : Nat) (s : State) :
    runScript (readLoopScript (m + 1)) s =
      { sampled (8 * (m + 1)) s with
        k := s.k + BitVec.ofNat 14 (56 * (m + 1) + 5 * m), waits := s.waits + (24 * (m + 1) + 2 * m)
        sclOut := true, sdaOut := true, shr := sampledByte s (8 * m), bitc := 8
        i := s.i + BitVec.ofNat 8 (m + 1), buf := storeBytes s.buf s.i (fun j => sampledByte s (8 * j)) (m + 1) } := by
  induction m with
  | zero => simp [readLoopScript, repeatScript, runScript_readByteStore, storeBytes]
  | succ m ih =>
    rw [readLoopScript_succ, runScript_append, ih, runScript_append, writeAckScript, runScript_writeBitScript,
      runScript_readByteStore]
    have actions : s.k + BitVec.ofNat 14 (56 * (m + 1) + 5 * m) + 5#14 + 56#14 =
        s.k + BitVec.ofNat 14 (56 * (m + 2) + 5 * (m + 1)) := by bv_omega
    have index : s.i + BitVec.ofNat 8 (m + 1) + 1#8 = s.i + BitVec.ofNat 8 (m + 2) := by bv_omega
    have waits : 24 * (m + 1) + (2 * m + 26) = 24 * (m + 2) + 2 * (m + 1) := by omega
    have samples : 8 * (m + 2) = 8 * (m + 1) + 8 := by omega
    simp [actions, index, waits, samples, storeBytes, sampled, sampledByte, answerAt, answerFrom_drop,
      List.drop_drop, Nat.add_assoc]

theorem readBlockTrace_succ (s : State) (m : Nat) :
    readBlockTrace s (m + 1) =
      readBlockTrace s m ++ ((if m = 0 then [] else writeCell false) ++ readByteTrace s (1 + 8 * m)) := by
  simp [readBlockTrace, List.range_succ]

/-- The loop's samples are those from number 1 on: the acknowledge-read slot has taken number 0. -/
theorem traceOf_readLoopScript {s t : State} (h : ∀ j, answerAt t j = answerAt s (1 + j)) (n : Nat) :
    traceOf (readLoopScript n) t = readBlockTrace s n := by
  have byte {u : State} {m : Nat} (hu : ∀ j, answerAt u j = answerAt t (8 * m + j)) :
      readByteTrace u 0 = readByteTrace s (1 + 8 * m) := by
    simp only [readByteTrace, hu, h, Nat.zero_add, Nat.add_assoc]
  induction n with
  | zero => rfl
  | succ m ih =>
    rw [readBlockTrace_succ, ← ih]
    cases m with
    | zero =>
      have first : readByteTrace t 0 = readByteTrace s (1 + 8 * 0) := byte fun j => by rw [Nat.mul_zero, Nat.zero_add]
      exact (List.append_nil _).trans ((traceOf_readByteStore t).trans first)
    | succ m =>
      have later (j : Nat) :
          answerAt (runScript writeAckScript (runScript (readLoopScript (m + 1)) t)) j =
            answerAt t (8 * (m + 1) + j) := by
        rw [runScript_readLoopScript, writeAckScript, runScript_writeBitScript]
        exact answerAt_sampled (8 * (m + 1)) j t
      rw [readLoopScript_succ, traceOf_append, traceOf_append, traceOf_readByteStore, byte later, writeAckScript,
        traceOf_writeBitScript, if_neg m.succ_ne_zero, bitOf]

/-! Before and after the loop -/

/-- `READ` up to its first byte: start, control byte with direction bit 1, one acknowledge-read slot. -/
def readHeadScript : List Micro :=
  writeStartScript ++ writeByteScript (.ctrl true) ++ readAckScript ++ [.upd .iZero]

/-- `READ` after its last byte: the not-acknowledge that `FINAL_NACK` asks for, and the stop condition. -/
def readTailScript (fn : Bool) (n : Byte) : List Micro := finalNackScript fn n ++ writeStopScript

theorem readScript_eq (fn : Bool) (n : Byte) :
    readScript fn n = readHeadScript ++ readLoopScript n.toNat ++ readTailScript fn n ++ [.upd (.setTxn .idle)] := by
  simp only [readScript, readHeadScript, readTailScript, List.append_assoc]

theorem runScript_readHeadScript (s : State) :
    runScript readHeadScript s =
      { sampled 1 s with
        k := s.k + 49, waits := s.waits + 19, sclOut := true, sdaOut := true
        ackf := !answerAt s 0, nak := answerAt s 0, shr := 0, bitc := 8, i := 0 } := by
  rw [readHeadScript, runScript_append, runScript_append, runScript_startAndControl, runScript_readAckScript]
  simp [perform_upd, applyUpd, sampled, answerAt, BitVec.add_assoc]

theorem traceOf_readHeadScript (s : State) :
    traceOf readHeadScript s = startTrace ++ writeByteTrace (ctrlByte s.addrr true) ++ readCell (answerAt s 0) := by
  rw [readHeadScript, traceOf_append, traceOf_append, traceOf_startAndControl, traceOf_readAckScript,
    runScript_startAndControl]
  exact List.append_nil _

theorem runScript_readTailScript (fn : Bool) (n : Byte) (s : State) :
    runScript (readTailScript fn n) s =
      { s with
        k := s.k + BitVec.ofNat 14 (4 + 5 * nackExtra fn n), waits := s.waits + 2 * nackExtra fn n
        sclOut := true, sdaOut := true } := by
  rw [readTailScript, runScript_append, runScript_writeStopScript, finalNackScript, nackExtra]
  split
  · simp [writeNackScript, runScript_writeBitScript, BitVec.add_assoc]
  · simp

theorem traceOf_readTailScript (fn : Bool) (n : Byte) (s : State) :
    traceOf (readTailScript fn n) s = (if fn = true ∧ n ≠ 0#8 then writeCell true else []) ++ stopTrace := by
  have asks : (fn && n != 0#8) = true ↔ fn = true ∧ n ≠ 0#8 := by simp
  rw [readTailScript, traceOf_append, traceOf_writeStopScript, finalNackScript]
  simp only [asks]
  split
  · rw [writeNackScript, traceOf_writeBitScript, bitOf]
  · rfl

/-! A whole read -/

theorem runScript_readScript (fn : Bool) (n : Byte) (s : State) :
    runScript (readScript fn n) s =
      { sampled (1 + 8 * n.toNat) s with
        k := s.k + BitVec.ofNat 14 (53 + 56 * n.toNat + 5 * (n.toNat - 1) + 5 * nackExtra fn n)
        waits := s.waits + (19 + 24 * n.toNat + 2 * (n.toNat - 1) + 2 * nackExtra fn n)
        i := n, ackf := !answerAt s 0, nak := answerAt s 0
        txn := .idle, sclOut := true, sdaOut := true
        shr := if n = 0#8 then 0 else sampledByte s (1 + 8 * (n.toNat - 1)), bitc := 8
        buf := storeBytes s.buf 0 (fun j => sampledByte s (1 + 8 * j)) n.toNat } := by
  rw [readScript_eq, runScript_append, runScript_append, runScript_append, runScript_readTailScript,
    runScript_readHeadScript]
  by_cases hn : n = 0#8
  · subst hn
    simp [readLoopScript, storeBytes, nackExtra, perform_upd, applyUpd, sampled, BitVec.add_assoc]
  · obtain ⟨m, hm⟩ : ∃ m, n.toNat = m + 1 := Nat.exists_eq_succ_of_ne_zero (by simpa [BitVec.toNat_eq] using hn)
    have count : BitVec.ofNat 8 (m + 1) = n := by bv_omega
    rw [hm, runScript_readLoopScript]
    have actions : s.k + 49#14 + BitVec.ofNat 14 (56 * (m + 1) + 5 * m) + BitVec.ofNat 14 (4 + 5 * nackExtra fn n) =
        s.k + BitVec.ofNat 14 (53 + (56 * (m + 1) + (5 * m + 5 * nackExtra fn n))) := by bv_omega
    have last : 1 + (8 * (m + 1) - 1) = 8 * (m + 1) := by omega
    simp [-List.drop_one, hn, count, actions, last, perform_upd, applyUpd, sampled, sampledByte, answerAt,
      answerFrom_drop, List.drop_drop, Nat.add_assoc]

theorem traceOf_readScript (fn : Bool) (n : Byte) (s : State) :
    traceOf (readScript fn n) s =
      startTrace ++ writeByteTrace (ctrlByte s.addrr true) ++ readCell (answerAt s 0) ++ readBlockTrace s n.toNat ++
        (if fn = true ∧ n ≠ 0#8 then writeCell true else []) ++ stopTrace := by
  have answers (j : Nat) : answerAt (runScript readHeadScript s) j = answerAt s (1 + j) := by
    rw [runScript_readHeadScript]
    exact answerAt_sampled 1 j s
  rw [readScript_eq, traceOf_append, traceOf_append, traceOf_append, traceOf_readHeadScript,
    traceOf_readLoopScript answers, traceOf_readTailScript]
  simp [traceOf]

/-- Settles O36: BUF is the bytes stored from index 0 on, and the samples are numbered from the acknowledge-read slot. -/
theorem readReceivesACompleteTransaction : Obligations.ReadReceivesACompleteTransaction := by
  refine fun a n s _ => ⟨⟨_, exec_eq (.read a n) s, ?_, fun x => ?_⟩, ?_,
    congrArg PortWord.command (commandWord_eq_or 0x2#4 a n)⟩
  · simp [headerOf, scriptOf, complete, runScript_readScript, accept_eq, readHeader, sampled, sampledByte, answerAt]
  · have buf : (complete (readScript s.finalNack n) (accept (readHeader a n) s)).buf =
        storeBytes s.buf 0#8 (fun j => sampledByte s (1 + 8 * j)) n.toNat := by
      simp [complete, runScript_readScript, sampledByte]
    exact (congrArg (byteIn · x) buf).trans (byteIn_storeBytes _ _ n.isLt.le x)
  · rw [instrTrace_of_command s rfl, scriptOf, traceOf_readScript, readBlockTrace_congr (answerAt_accept _ s),
      answerAt_accept, accept_addrr, readHeader]

end Sys2Proof.Machine
end

section
/-! SUPPORT. What a command does not depend on (spec/42_transactions.md rules R166, R168, R169): fields no entry of a script
reads, the parameter `FINAL_NACK` outside a `READ` with bytes, and the check of `TXN`; and the zero-length commands. -/

namespace Sys2Proof.Machine

/-! Zero-length commands (R168) -/

/-- A legal word presented to a block that is ready is accepted in this step (R95). -/
theorem step_of_legalWord {s : State} {w : CmdWord} {ms : List Move} {i : Instr} (hr : s.rst = false)
    (ho : s.order = none) (hb : s.busy = false) (hm : s.moves = .present w :: ms) (hd : decodeCommand w = .ok i) :
    step s = .next (beginCommand i { s with moves := ms }) := by
  have ready : portsReady s = true := by simp [portsReady, hr, hb]
  refine step_of_fetch_done ((fetch_of_enabled_move (.inr ho) hm (.inl ready)).trans ?_)
  simp only [takeMove, presentWord, hd]

/-- With no byte to send, acceptance of `WRITE_BLOCK` makes the update `I <- 0` and completes the command. -/
theorem beginCommand_writeBlock_zero (s : State) :
    beginCommand (.writeBlock 0#8) s = { accept (writeBlockHeader 0#8) s with i := 0, todo := [], busy := false } := rfl

/-- Settles O37: the command runs no action after acceptance, and the frames are those of R164 and R165 with no byte. -/
theorem zeroLengthCommands : Obligations.ZeroLengthCommands := by
  intro a s ms hr ho hb hm
  have step_eq := step_of_legalWord hr ho hb hm (show decodeCommand 0x40000#20 = .ok (.writeBlock 0#8) by decide)
  rw [beginCommand_writeBlock_zero] at step_eq
  have write : instrTrace (.write a 0#8) s =
      startTrace ++ writeByteTrace (ctrlByte a false) ++ readCell (answerAt s 0) ++ stopTrace := by
    rw [(writeSendsACompleteTransaction a 0#8 s hb).2.1]
    simp [writeBlockTrace]
  have read : instrTrace (.read a 0#8) s =
      startTrace ++ writeByteTrace (ctrlByte a true) ++ readCell (answerAt s 0) ++ stopTrace := by
    rw [(readReceivesACompleteTransaction a 0#8 s hb).2.1]
    simp [readBlockTrace]
  refine ⟨⟨_, step_eq, ?_⟩, rfl, write, read, ?_, ?_⟩
  · simp [writeBlockHeader]
  · rw [write]
    rfl
  · rw [read]
    rfl

/-! Fields that no entry of a script reads -/

/-- A change of the state that no entry of a script sees: what an entry does to the other fields, and the event of an
action, are the same after it. -/
structure Unseen (change : State → State) : Prop where
  same_perform : ∀ (m : Micro) (s : State), change (perform m (change s)) = change (perform m s)
  same_event : ∀ (x : Act) (s : State), eventOf x (change s) = eventOf x s

/-- From states that differ in nothing an entry sees, a script leaves such states and has one trace. -/
theorem Unseen.runScript_congr {change : State → State} (hc : Unseen change) (ms : List Micro) {s t : State}
    (h : change s = change t) :
    change (runScript ms s) = change (runScript ms t) ∧ traceOf ms s = traceOf ms t := by
  induction ms generalizing s t with
  | nil => exact ⟨h, rfl⟩
  | cons m ms ih =>
    have next : change (perform m s) = change (perform m t) := by rw [← hc.same_perform, h, hc.same_perform]
    obtain ⟨ends, traces⟩ := ih next
    refine ⟨ends, ?_⟩
    cases m with
    | act x =>
      have event : eventOf x s = eventOf x t := by rw [← hc.same_event, h, hc.same_event]
      exact congrArg₂ List.cons event traces
    | upd u => exact traces

/-- The event of an action depends on nothing but `SHR`, the data output and the coming answers. -/
theorem eventOf_congr {s t : State} (hshr : t.shr = s.shr) (hsda : t.sdaOut = s.sdaOut) (ha : t.answers = s.answers)
    (hs : t.samples = s.samples) (x : Act) : eventOf x t = eventOf x s := by
  cases x with
  | sda v => exact congrArg Event.sda (bitOf_congr v hshr)
  | sample => simp only [eventOf, hsda, answerAt_congr ha hs]
  | _ => rfl

/-- The state with another value of `FINAL_NACK`. -/
def withFinalNack (fn : Bool) (s : State) : State := { s with finalNack := fn }

/-- The state with another value of `TXN` and of `SEQ_ERR`. -/
def withOrder (t : Txn) (e : Bool) (s : State) : State := { s with txn := t, seqErr := e }

theorem unseen_withFinalNack (fn : Bool) : Unseen (withFinalNack fn) where
  same_perform m s := by
    rcases m with x | u
    · cases x with
      | sda v => cases v <;> rfl
      | _ => rfl
    · cases u with
      | shrLoad src => cases src <;> rfl
      | _ => rfl
  same_event _ _ := eventOf_congr rfl rfl rfl rfl _

theorem unseen_withOrder (t : Txn) (e : Bool) : Unseen (withOrder t e) where
  same_perform m s := by
    rcases m with x | u
    · cases x with
      | sda v => cases v <;> rfl
      | _ => rfl
    · cases u with
      | shrLoad src => cases src <;> rfl
      | _ => rfl
  same_event _ _ := eventOf_congr rfl rfl rfl rfl _

/-! The parameter (R169) -/

theorem withFinalNack_of_eq {fn : Bool} {s : State} (h : s.finalNack = fn) : withFinalNack fn s = s := by
  rw [withFinalNack, ← h]

theorem runScript_withFinalNack (fn : Bool) (ms : List Micro) (s : State) :
    runScript ms (withFinalNack fn s) = withFinalNack fn (runScript ms s) :=
  calc runScript ms (withFinalNack fn s)
    _ = withFinalNack fn (runScript ms (withFinalNack fn s)) :=
      (withFinalNack_of_eq (runScript_sameOutside ms _).finalNack).symm
    _ = withFinalNack fn (runScript ms s) :=
      ((unseen_withFinalNack fn).runScript_congr ms (s := withFinalNack fn s) (t := s) rfl).1

theorem traceOf_withFinalNack (fn : Bool) (ms : List Micro) (s : State) :
    traceOf ms (withFinalNack fn s) = traceOf ms s :=
  ((unseen_withFinalNack fn).runScript_congr ms (s := withFinalNack fn s) (t := s) rfl).2

theorem accept_withFinalNack (fn : Bool) (h : Header) (s : State) :
    accept h (withFinalNack fn s) = withFinalNack fn (accept h s) := by
  simp only [accept_eq, withFinalNack]

theorem enter_withFinalNack (fn : Bool) (i : Instr) (s : State) :
    enter i (withFinalNack fn s) = withFinalNack fn (enter i s) := by
  unfold enter
  split
  · exact accept_withFinalNack fn _ s
  · rfl

/-- Only a `READ` with bytes to receive has another script for another value of the parameter. -/
theorem scriptOf_finalNack {i : Instr} (hi : ∀ a n, i = .read a n → n = 0#8) (fn fn' : Bool) :
    scriptOf fn i = scriptOf fn' i := by
  cases i with
  | read a n =>
    obtain rfl := hi a n rfl
    simp only [scriptOf, readScript, finalNackScript, bne_self_eq_false, Bool.and_false]
  | _ => rfl

theorem instrTrace_withFinalNack {i : Instr} (hi : ∀ a n, i = .read a n → n = 0#8) (fn : Bool) (s : State) :
    instrTrace i (withFinalNack fn s) = instrTrace i s := by
  rw [instrTrace, enter_withFinalNack, traceOf_withFinalNack, scriptOf_finalNack hi _ s.finalNack, ← instrTrace]

theorem exec_withFinalNack {i : Instr} (hi : ∀ a n, i = .read a n → n = 0#8) (fn : Bool) {s t : State}
    (ht : exec i s = .next t) : exec i (withFinalNack fn s) = .next (withFinalNack fn t) := by
  rw [exec_eq] at ht ⊢
  cases ht
  rw [scriptOf_finalNack hi (withFinalNack fn s).finalNack s.finalNack]
  cases headerOf i with
  | none => exact congrArg _ (runScript_withFinalNack fn _ s)
  | some h =>
    simp only [complete, accept_withFinalNack, runScript_withFinalNack]
    rfl

/-- Settles O38: the parameter stands in the script of a `READ` with bytes alone, just before the stop condition. -/
theorem finalNackOnlyAddsOneSlotToRead : Obligations.FinalNackOnlyAddsOneSlotToRead := by
  refine ⟨rfl, fun a n s hn => ?_, fun i s fn hi =>
    ⟨instrTrace_withFinalNack hi fn s, fun t ht => exec_withFinalNack hi fn ht⟩⟩
  have trace (fn : Bool) : instrTrace (.read a n) { s with finalNack := fn } =
      startTrace ++ writeByteTrace (ctrlByte a true) ++ readCell (answerAt s 0) ++ readBlockTrace s n.toNat ++
        (if fn = true ∧ n ≠ 0#8 then writeCell true else []) ++ stopTrace := by
    refine (instrTrace_of_command { s with finalNack := fn } rfl).trans ?_
    rw [scriptOf, traceOf_readScript, readBlockTrace_congr (answerAt_accept _ _), answerAt_accept, accept_addrr]
    rfl
  refine ⟨startTrace ++ writeByteTrace (ctrlByte a true) ++ readCell (answerAt s 0) ++ readBlockTrace s n.toNat,
    ?_, ?_, rfl, rfl⟩
  · rw [trace]
    simp
  · rw [trace]
    simp [hn]

/-! The check of `TXN` (R166) -/

/-- Whatever `TXN` is, acceptance leaves the same but for `TXN` and `SEQ_ERR`. -/
theorem withOrder_accept (t x : Txn) (e : Bool) (h : Header) (s : State) :
    withOrder t e (accept h { s with txn := x }) = withOrder t e (accept h s) := by
  simp only [accept_eq, withOrder]

/-- Completion touches neither `TXN` nor `SEQ_ERR`. -/
theorem withOrder_complete (t : Txn) (e : Bool) (ms : List Micro) (s : State) :
    withOrder t e (complete ms s) = { withOrder t e (runScript ms s) with todo := [], busy := false } := rfl

/-- Settles O39: acceptance reads `TXN` for `SEQ_ERR` alone, and no entry of a script reads either of the two. -/
theorem preconditionCheckOnlyRaisesSeqErr : Obligations.PreconditionCheckOnlyRaisesSeqErr := by
  refine ⟨⟨rfl, fun _ => rfl, fun _ => rfl, fun _ _ => rfl, fun _ _ => rfl⟩, fun i h s hh => ?_⟩
  have result (u : State) : exec i u = .next (complete (scriptOf u.finalNack i) (accept h u)) := by
    rw [exec_eq, hh]
  refine ⟨_, result s, ?_, fun x => ⟨?_, _, result _, ?_⟩⟩
  · exact (runScript_sameOutside _ _).seqErr.trans (accept_seqErr s h)
  · rw [instrTrace_of_command _ hh, instrTrace_of_command _ hh]
    exact ((unseen_withOrder .idle false).runScript_congr _ (withOrder_accept _ x _ h s)).2
  · generalize ht : complete (scriptOf s.finalNack i) (accept h s) = t
    have ends : withOrder t.txn t.seqErr (runScript (scriptOf s.finalNack i) (accept h { s with txn := x })) =
        withOrder t.txn t.seqErr (runScript (scriptOf s.finalNack i) (accept h s)) :=
      ((unseen_withOrder _ _).runScript_congr _ (withOrder_accept _ x _ h s)).1
    calc withOrder t.txn t.seqErr (complete (scriptOf s.finalNack i) (accept h { s with txn := x }))
      _ = withOrder t.txn t.seqErr (complete (scriptOf s.finalNack i) (accept h s)) := by
        rw [withOrder_complete, ends, ← withOrder_complete]
      _ = t := by rw [ht]; rfl

end Sys2Proof.Machine
end

section
/-! SUPPORT. A command along the block's steps (spec/10_state.md rule R31, spec/42_transactions.md rule R167): once a part
of a script has had as many steps as it has actions, the rest runs from the state that part leaves; and the steps in which
`TXN` changes. -/

namespace Sys2Proof.Machine

/-! Actions of a script -/

/-- Whether an entry is an action. -/
def isAct : Micro → Bool
  | .act _ => true
  | .upd _ => false

/-- The number of actions of a script: the number of steps the block takes for it (R31). -/
def actions (ms : List Micro) : Nat := ms.countP isAct

theorem actions_append (xs ys : List Micro) : actions (xs ++ ys) = actions xs + actions ys := List.countP_append

theorem actions_repeatScript (k : Nat) (body : List Micro) : actions (repeatScript k body) = k * actions body := by
  induction k with
  | zero => rw [Nat.zero_mul]; rfl
  | succ k ih => rw [repeatScript, actions_append, ih, Nat.succ_mul, Nat.add_comm]

theorem actions_writeBlockScript (n : Byte) : actions (writeBlockScript n) = 47 * n.toNat := by
  have first : actions [.upd .iZero] = 0 := rfl
  have pass : actions writeBlockBody = 47 := by decide
  rw [writeBlockScript, actions_append, actions_repeatScript, first, pass]
  omega

theorem actions_readLoopScript (n : Nat) : actions (readLoopScript n) = 56 * n + 5 * (n - 1) := by
  cases n with
  | zero => rfl
  | succ m =>
    have first : actions readByteStore = 56 := by decide
    have later : actions (writeAckScript ++ readByteStore) = 61 := by decide
    rw [readLoopScript, actions_append, actions_repeatScript, first, later]
    omega

theorem actions_readTailScript (fn : Bool) (n : Byte) : actions (readTailScript fn n) = 4 + 5 * nackExtra fn n := by
  rw [readTailScript, finalNackScript, nackExtra]
  split <;> rfl

/-- The actions of `READ` all stand before its update of `TXN`. -/
theorem actions_readScript (fn : Bool) (a : SlaveAddr) (n : Byte) :
    actions (readHeadScript ++ readLoopScript n.toNat ++ readTailScript fn n) = actionCount fn (.read a n) := by
  have head : actions readHeadScript = 49 := by decide
  rw [actions_append, actions_append, head, actions_readLoopScript, actions_readTailScript, actionCount]
  omega

/-! The block's steps along a script -/

theorem perform_withTodo (m : Micro) (s : State) (r : List Micro) :
    perform m { s with todo := r } = { perform m s with todo := r } :=
  (perform_setTodo m s r s.busy).trans (by rw [← (perform_sameOutside m s).busy])

/-- `settle` writes `todo` without reading it. -/
theorem settle_withTodo (ms r : List Micro) (s : State) : settle ms { s with todo := r } = settle ms s := by
  induction ms generalizing s with
  | nil => rfl
  | cons m ms ih =>
    cases m with
    | act a => rfl
    | upd u => exact (congrArg (settle ms) (perform_withTodo (.upd u) s r)).trans (ih (applyUpd u s))

/-- A step of a running command whose next entry is an action. -/
theorem blockStep_settle_act (a : Act) (r : List Micro) {s : State} (hb : s.busy = true) :
    blockStep (settle (.act a :: r) s) = settle r (perform (.act a) s) := by
  rw [← settle_withTodo r (.act a :: r) (perform (.act a) s), ← perform_withTodo]
  simp only [blockStep, settle, hb, if_true, perform]

theorem runBlock_of_idle (j : Nat) {s : State} (hb : s.busy = false) : runBlock j s = s := by
  induction j with
  | zero => rfl
  | succ j ih =>
    have idle : blockStep s = s := by simp [blockStep, hb]
    rw [runBlock, idle, ih]

/-- Once the block has taken a step for each action of `xs`, it stands at the beginning of what follows. -/
theorem runBlock_settle_append (xs ys : List Micro) (j : Nat) {s : State} (hb : s.busy = true) :
    runBlock (actions xs + j) (settle (xs ++ ys) s) = runBlock j (settle ys (runScript xs s)) := by
  induction xs generalizing s with
  | nil => rw [show actions [] = 0 from rfl, Nat.zero_add]; rfl
  | cons m xs ih =>
    have later := ih ((perform_sameOutside m s).busy.trans hb)
    cases m with
    | act a =>
      have count : actions (.act a :: xs) + j = (actions xs + j) + 1 := by
        rw [actions, List.countP_cons_of_pos rfl, actions]; omega
      rw [count, runBlock, List.cons_append, blockStep_settle_act a _ hb, later, runScript_cons]
    | upd u => exact later

/-- Until then nothing of what follows has happened: `TXN` is as it was, where `xs` does not write it. -/
theorem runBlock_settle_append_txn {xs : List Micro} (hx : ∀ m ∈ xs, setsTxn m = false) (ys : List Micro) {j : Nat}
    (hj : j < actions xs) {s : State} (hb : s.busy = true) : (runBlock j (settle (xs ++ ys) s)).txn = s.txn := by
  induction xs generalizing s j with
  | nil => cases hj
  | cons m xs ih =>
    obtain ⟨hm, hxs⟩ := List.forall_mem_cons.1 hx
    have busy : (perform m s).busy = true := (perform_sameOutside m s).busy.trans hb
    cases m with
    | act a =>
      cases j with
      | zero => rfl
      | succ j =>
        have left : j < actions xs := by
          rw [actions, List.countP_cons_of_pos rfl] at hj; exact Nat.lt_of_succ_lt_succ hj
        rw [runBlock, List.cons_append, blockStep_settle_act a _ hb, ih hxs left busy, perform_txn hm]
    | upd u => exact (ih hxs hj busy).trans (perform_txn hm)

/-! `TXN` along a command (R167) -/

/-- The update of `TXN` is made in the step of the last action before it. -/
theorem runBlock_settle_setTxn {xs : List Micro} (hx : ∀ m ∈ xs, setsTxn m = false) (t : Txn) (ys : List Micro)
    (j : Nat) {s : State} (hb : s.busy = true) :
    (runBlock j (settle (xs ++ .upd (.setTxn t) :: ys) s)).txn =
      if j < actions xs then s.txn
      else (runBlock (j - actions xs) (settle ys (runScript (xs ++ [.upd (.setTxn t)]) s))).txn := by
  split
  next hj => exact runBlock_settle_append_txn hx _ hj hb
  next hj =>
    obtain ⟨d, rfl⟩ := Nat.exists_eq_add_of_le (Nat.le_of_not_lt hj)
    rw [runBlock_settle_append xs _ d hb, Nat.add_sub_cancel_left, runScript_append]
    rfl

/-- Where the update of `TXN` is the last entry, the command is complete after it. -/
theorem runBlock_settle_setTxn_last {xs : List Micro} (hx : ∀ m ∈ xs, setsTxn m = false) (t : Txn) (j : Nat)
    {s : State} (hb : s.busy = true) :
    (runBlock j (settle (xs ++ [.upd (.setTxn t)]) s)).txn = if j < actions xs then s.txn else t := by
  rw [runBlock_settle_setTxn hx t [] j hb, runBlock_of_idle _ (s := settle [] _) rfl, runScript_append]
  rfl

/-- A script that does not write `TXN` leaves it in every step. -/
theorem runBlock_settle_txn {xs : List Micro} (hx : ∀ m ∈ xs, setsTxn m = false) (j : Nat) {s : State}
    (hb : s.busy = true) : (runBlock j (settle xs s)).txn = s.txn := by
  rw [← List.append_nil xs]
  obtain hj | hj := Nat.lt_or_ge j (actions xs)
  · exact runBlock_settle_append_txn hx [] hj hb
  · obtain ⟨d, rfl⟩ := Nat.exists_eq_add_of_le hj
    rw [runBlock_settle_append xs [] d hb, runBlock_of_idle d (s := settle [] _) rfl]
    exact runScript_txn hx

theorem readScript_setsTxn (fn : Bool) (n : Byte) :
    ∀ m ∈ readHeadScript ++ readLoopScript n.toNat ++ readTailScript fn n, setsTxn m = false := by
  have head : ∀ m ∈ readHeadScript, setsTxn m = false := by decide
  have first : ∀ m ∈ readByteStore, setsTxn m = false := by decide
  have later : ∀ m ∈ writeAckScript ++ readByteStore, setsTxn m = false := by decide
  have loop (k : Nat) : ∀ m ∈ readLoopScript k, setsTxn m = false := by
    intro m hm
    cases k with
    | zero => cases hm
    | succ k => exact (List.mem_append.1 hm).elim (first m) fun hm => later m (mem_of_mem_repeatScript hm)
  have tail : ∀ m ∈ readTailScript fn n, setsTxn m = false := by
    rw [readTailScript, finalNackScript]
    split <;> decide
  simp only [List.forall_mem_append]
  exact ⟨⟨head, loop _⟩, tail⟩

/-- `WRITE` writes `TXN` twice: before its payload and at its end. -/
theorem writeScript_eq (n : Byte) :
    writeScript n =
      writeStartScript ++ writeByteScript (.ctrl false) ++
        .upd (.setTxn .writeOpen) ::
          (writeBlockScript n ++ (readAckScript ++ writeStopScript) ++ [.upd (.setTxn .idle)]) := by
  simp only [writeScript, writeBeginScript, writeEndScript, List.append_assoc, List.cons_append, List.nil_append]

/-- Settles O40: each script is the entries before its updates of `TXN`, which write it nowhere else. -/
theorem txnChangesInTheStepsOfR167 : Obligations.TxnChangesInTheStepsOfR167 := by
  have opening : ∀ m ∈ writeStartScript ++ writeByteScript (.ctrl false), setsTxn m = false := by decide
  have closing : ∀ m ∈ readAckScript ++ writeStopScript, setsTxn m = false := by decide
  have payload (n : Byte) : ∀ m ∈ writeBlockScript n, setsTxn m = false :=
    fun m hm => (writeBlockScript_plain n m hm).2
  intro s a n j
  refine ⟨?_, ?_, ?_, ?_, ?_⟩
  · exact (runBlock_settle_setTxn_last opening .writeOpen j (accept_busy s _)).trans (by rw [accept_txn]; rfl)
  · exact (runBlock_settle_txn (payload n) j (accept_busy s _)).trans (accept_txn s _)
  · exact (runBlock_settle_setTxn_last closing .idle j (accept_busy s _)).trans (by rw [accept_txn]; rfl)
  · have rest : ∀ m ∈ writeBlockScript n ++ (readAckScript ++ writeStopScript), setsTxn m = false :=
      List.forall_mem_append.2 ⟨payload n, closing⟩
    have first : actions (writeStartScript ++ writeByteScript (.ctrl false)) = 42 := by decide
    have second : actions (writeBlockScript n ++ (readAckScript ++ writeStopScript)) = 47 * n.toNat + 11 := by
      rw [actions_append, actions_writeBlockScript]
      rfl
    have total : j - 42 < 47 * n.toNat + 11 ↔ j < 53 + 47 * n.toNat := by omega
    change (runBlock j (settle (writeScript n) (accept (writeHeader a n) s))).txn = _
    rw [writeScript_eq, runBlock_settle_setTxn opening _ _ j (accept_busy s _), first,
      runBlock_settle_setTxn_last rest _ _ ((runScript_sameOutside _ _).busy.trans (accept_busy s _)), second,
      ← writeBeginScript, writeBeginScript_txn, accept_txn]
    simp only [total]
  · change (runBlock j (settle (readScript s.finalNack n) (accept (readHeader a n) s))).txn = _
    rw [readScript_eq, runBlock_settle_setTxn_last (readScript_setsTxn _ n) _ j (accept_busy s _), accept_txn,
      actions_readScript _ a]

end Sys2Proof.Machine
end

section
/-! SUPPORT. Decoding and encoding are inverse to each other (spec/30_encoding.md rules R91, R93, R99). -/

namespace Sys2Proof

/-- A command word decodes to `i` exactly when it is the word of `i`: both fix the four fields. -/
theorem decodeCommand_eq_ok_iff_encode (w : CmdWord) (i : Instr) : decodeCommand w = .ok i ↔ encode i = .command w := by
  rw [decodeCommand_eq_ok_iff]
  cases i with
  | write a n => simp [encode, eq_comm (b := w), eq_commandWord_iff, and_left_comm]
  | read a n => simp [encode, eq_comm (b := w), eq_commandWord_iff, and_left_comm]
  | writeBegin a => simp [encode, eq_comm (b := w), eq_commandWord_iff, and_left_comm, and_comm (a := fieldN w = 0#8)]
  | writeBlock n => simp [encode, eq_comm (b := w), eq_commandWord_iff, and_left_comm]
  | writeEnd => simp [encode, eq_comm (b := w), eq_commandWord_iff, and_left_comm]
  | _ => simp [encode]

/-- A word is put together from its fields, whatever their values are called. -/
theorem orderWord_of_fields {w : OrdWord} {u : BitVec 4} {x : Byte} (hu : fieldUop w = u) (hx : fieldArg w = x) :
    orderWord u x = w := by
  rw [← hu, ← hx, orderWord_fields]

/-- A byte is its bits 7:1 above its bit 0. -/
theorem upperBits_append_bit_zero (x : Byte) : x.extractLsb' 1 7 ++ BitVec.ofBool (x.getLsbD 0) = x := by
  refine BitVec.eq_of_getLsbD_eq fun j hj => ?_
  rw [BitVec.getLsbD_append, BitVec.getLsbD_extractLsb', BitVec.getLsbD_ofBool]
  cases j with
  | zero => rfl
  | succ j => simp [Nat.add_comm 1 j, Nat.lt_of_succ_lt_succ hj]

/-- An order without argument is decoded from a word whose argument field is 0. -/
theorem encode_of_noArg {w : OrdWord} {u : BitVec 4} {i j : Instr} (hu : fieldUop w = u)
    (he : encode i = .order (orderWord u 0#8)) (h : noArg w i = .ok j) : encode j = .order w := by
  unfold noArg at h
  split_ifs at h with hx
  cases h
  rw [he, orderWord_of_fields hu hx]

/-- An order word is the word of the operation it names (R99). -/
theorem encode_of_decodeOrder {w : OrdWord} {i : Instr} (h : decodeOrder w = .ok i) : encode i = .order w := by
  unfold decodeOrder at h
  split_ifs at h with h1 h2 hb h3 h4 h5 h6 h7 h8 h9 hA
  · exact encode_of_noArg h1 rfl h
  · cases h
    rw [encode, ← hb, upperBits_append_bit_zero, orderWord_of_fields h2 rfl]
  · exact encode_of_noArg h3 rfl h
  · exact encode_of_noArg h4 rfl h
  · exact encode_of_noArg h5 rfl h
  · exact encode_of_noArg h6 rfl h
  · exact encode_of_noArg h7 rfl h
  · exact encode_of_noArg h8 rfl h
  · cases h
    rw [encode, orderWord_of_fields h9 rfl]
  · exact encode_of_noArg hA rfl h

/-- Settles O5: a command by its fields; an order by the table of R99, whose argument
fields are free in two rows only. -/
theorem decodingAnEncodedInstructionGivesItBack : Obligations.DecodingAnEncodedInstructionGivesItBack := by
  intro i _
  cases i with
  | write | read | writeBegin | writeBlock | writeEnd => exact (decodeCommand_eq_ok_iff_encode ..).2 rfl
  | writeBit x => cases x <;> decide
  | writeByte x => simp [decode, encode, decodeOrder, fieldUop_orderWord, fieldArg_orderWord]
  | _ => decide

/-- Settles O6: on either port a word that decodes fixes every field of the word. -/
theorem encodingADecodedWordGivesItBack : Obligations.EncodingADecodedWordGivesItBack := by
  intro p i h
  cases p with
  | command w => exact (decodeCommand_eq_ok_iff_encode w i).1 h
  | order w => exact encode_of_decodeOrder h

end Sys2Proof
end

section
/-! SUPPORT. The invariant of the machine (spec/10_state.md rules R23, R25, R31; spec/70_reset_and_hazards.md rule
R245): what each agent's step does to it, and the outputs in a state that satisfies it. -/

namespace Sys2Proof.Machine

/-! Fields the invariant does not see -/

/-- A state with everything struck out that is the host's or the environment's, and `ILL_CMD`. -/
def withoutHost (s : State) : State :=
  { s with moves := [], bufRdata := 0, statusRead := 0, envScl := true, envSda := true, illCmd := false }

theorem unseen_withoutHost : Unseen withoutHost where
  same_perform m s := by
    rcases m with x | u
    · cases x with
      | sda v => cases v <;> rfl
      | _ => rfl
    · cases u with
      | shrLoad src => cases src <;> rfl
      | _ => rfl
  same_event _ _ := eventOf_congr rfl rfl rfl rfl _

/-- The lines at the end of the running command do not depend on what the host and the environment do meanwhile. -/
theorem linesAtRest_complete_congr {s t : State} (h : withoutHost t = withoutHost s) (ms : List Micro)
    (hs : LinesAtRest (complete ms s)) : LinesAtRest (complete ms t) := by
  have ends := (unseen_withoutHost.runScript_congr ms h).1
  have scl : (complete ms t).sclOut = (complete ms s).sclOut := (congrArg State.sclOut ends :)
  have sda : (complete ms t).sdaOut = (complete ms s).sdaOut := (congrArg State.sdaOut ends :)
  have txn : (complete ms t).txn = (complete ms s).txn := (congrArg State.txn ends :)
  have seqErr : (complete ms t).seqErr = (complete ms s).seqErr := (congrArg State.seqErr ends :)
  rwa [LinesAtRest, scl, sda, txn, seqErr]

/-- The invariant is about nothing that `withoutHost` strikes out. -/
theorem Inv.congr {s t : State} (hs : Inv s) (h : withoutHost t = withoutHost s) : Inv t := by
  obtain ⟨order, wf, busy, head, rest⟩ := hs
  have todo_eq : t.todo = s.todo := (congrArg State.todo h :)
  refine ⟨(congrArg State.order h :).trans order, ?_, ?_, ?_, ?_⟩
  · rw [show t.buf = s.buf from (congrArg State.buf h :), wf]
  · rw [todo_eq, ← busy]
    exact (congrArg State.busy h :)
  · rw [todo_eq, head]
  · rw [todo_eq]
    exact linesAtRest_complete_congr h _ rest

/-! Between commands -/

/-- With `BUSY = 0` nothing remains to be done and the lines are at rest (R23). -/
theorem Inv.atRest {s : State} (h : Inv s) (hb : s.busy = false) : s.todo = [] ∧ LinesAtRest s := by
  obtain ⟨-, -, busy, -, rest⟩ := h
  have todo : s.todo = [] := by simpa [hb] using busy
  rw [todo] at rest
  exact ⟨todo, rest⟩

/-- A state with nothing remaining and the lines at rest satisfies the invariant. -/
theorem inv_of_atRest {s : State} (ho : s.order = none) (hw : Memory.wf s.buf = true) (hb : s.busy = false)
    (ht : s.todo = []) (hl : LinesAtRest s) : Inv s := by
  refine ⟨ho, hw, by rw [hb, ht]; rfl, by rw [ht]; rfl, ?_⟩
  rw [ht]
  exact hl

/-! Commands -/

/-- Whatever command runs from lines at rest, its script leaves them at rest (R23, R173). -/
theorem linesAtRest_command {i : Instr} {h : Header} {s : State} (fn : Bool) (hh : headerOf i = some h)
    (hs : LinesAtRest s) : LinesAtRest (complete (scriptOf fn i) (accept h s)) := by
  obtain ⟨scl, sda⟩ := hs
  cases i with
  | write a n => simp [LinesAtRest, scriptOf, complete, runScript_writeScript_eq]
  | read a n => simp [LinesAtRest, scriptOf, complete, runScript_readScript]
  | writeBegin a => simp [LinesAtRest, scriptOf, complete, runScript_writeBeginScript]
  | writeEnd => simp [LinesAtRest, scriptOf, complete, runScript_writeEndScript]
  | writeBlock n =>
    cases hh
    refine ⟨by simp [scriptOf, complete, runScript_writeBlockScript, scl], fun txn seqErr => ?_⟩
    have idle : s.txn = .idle := by
      rw [← accept_txn s (writeBlockHeader n), ← txn]
      exact (runScript_txn fun m hm => (writeBlockScript_plain n m hm).2).symm
    have kept : (s.seqErr || !decide (s.txn = .writeOpen)) = false := by
      rw [← seqErr]
      exact ((accept_seqErr s (writeBlockHeader n)).symm.trans (runScript_sameOutside _ _).seqErr.symm)
    simp [idle] at kept
  | _ => cases hh

/-- A command executed whole, from a block that is ready, ends in a state of the invariant. -/
theorem inv_complete {i : Instr} {h : Header} {s : State} (fn : Bool) (hh : headerOf i = some h) (hs : Inv s)
    (hb : s.busy = false) : Inv (complete (scriptOf fn i) (accept h s)) := by
  have kept := runScript_sameOutside (scriptOf fn i) (accept h s)
  refine inv_of_atRest ?_ ?_ rfl rfl (linesAtRest_command fn hh (hs.atRest hb).2)
  · exact kept.order.trans ((accept_order s h).trans hs.1)
  · exact runScript_wf _ _ (by rw [accept_buf]; exact hs.2.1)

/-- With the leading updates made, the next entry is an action and the end is the same. -/
theorem inv_settle {ms : List Micro} {s : State} (ho : s.order = none) (hw : Memory.wf s.buf = true)
    (hb : s.busy = true) (hl : LinesAtRest (complete ms s)) : Inv (settle ms s) := by
  rw [← complete_settle] at hl
  obtain ⟨us, r, b, -, -, eq⟩ := settle_eq_runScript ms s
  refine ⟨?_, ?_, ?_, ?_, hl⟩
  · rw [eq]; exact (runScript_sameOutside us s).order.trans ho
  · rw [eq]; exact runScript_wf us s hw
  · obtain ⟨todo, busy⟩ | ⟨a, r, todo, busy⟩ := settle_head ms s
    · rw [todo, busy]; rfl
    · rw [todo, busy, hb]; rfl
  · obtain ⟨todo, -⟩ | ⟨a, r, todo, -⟩ := settle_head ms s <;> rw [todo] <;> rfl

/-! Steps -/

/-- A step of a running command whose next entry is an action. -/
theorem blockStep_of_act {s : State} {a : Act} {r : List Micro} (hb : s.busy = true) (ht : s.todo = .act a :: r) :
    blockStep s = settle r (stepAct a s) := by
  simp only [blockStep, hb, if_true, ht]

/-- With `BUSY = 0` the block takes no step (R25). -/
theorem blockStep_of_idle {s : State} (hb : s.busy = false) : blockStep s = s := by
  simp [blockStep, hb]

theorem headIsAction_cases {ms : List Micro} (h : headIsAction ms = true) : ms = [] ∨ ∃ a r, ms = .act a :: r := by
  rcases ms with _ | ⟨a | u, r⟩
  · exact .inl rfl
  · exact .inr ⟨a, r, rfl⟩
  · cases h

/-- The block's step: a part of what remains of the command. -/
theorem inv_blockStep {s : State} (h : Inv s) : Inv (blockStep s) := by
  cases hb : s.busy with
  | false => rwa [blockStep_of_idle hb]
  | true =>
    obtain ⟨order, wf, busy, head, rest⟩ := h
    obtain todo | ⟨a, r, todo⟩ := headIsAction_cases head
    · simp [hb, todo] at busy
    · have outside := perform_sameOutside (.act a) s
      rw [todo] at rest
      rw [blockStep_of_act hb todo]
      exact inv_settle (outside.order.trans order) (perform_wf (.act a) s wf) (outside.busy.trans hb) rest

/-- A clock edge with `rst = 1`, and the same once `rst` is low. -/
theorem inv_assertRst {s : State} (h : Inv s) (r : Bool) : Inv { assertRst s with rst := r } :=
  inv_of_atRest rfl h.2.1 rfl rfl ⟨rfl, fun _ _ => rfl⟩

theorem inv_clockStep {s : State} (h : Inv s) : Inv (clockStep s) := by
  cases hr : s.rst with
  | false => rw [clockStep_of_low hr]; exact inv_blockStep h
  | true => rw [clockStep_of_high hr]; exact inv_assertRst h s.rst

theorem inv_releaseRst {s : State} (h : Inv s) : Inv (releaseRst s) := by
  cases hr : s.rst with
  | false => rwa [releaseRst_of_low hr]
  | true => rw [releaseRst_of_high hr]; exact inv_assertRst h false

/-- A write of the host to BUF, made between commands only (R62). -/
theorem inv_hostBufWrite {s : State} (a v : Byte) (h : Inv s) (hb : s.busy = false) : Inv (hostBufWrite a v s) :=
  inv_of_atRest h.1 (hostBufWrite_wf a v s h.2.1) hb (h.atRest hb).1 (h.atRest hb).2

/-- A ready block is idle and out of reset. -/
theorem portsReady_iff (s : State) : portsReady s = true ↔ s.busy = false ∧ s.rst = false := by
  simp [portsReady]

/-- Every command has a header to load (R95). -/
theorem exists_headerOf {i : Instr} (h : i.isCommand = true) : ∃ h, headerOf i = some h := by
  cases i with
  | write | read | writeBegin | writeBlock | writeEnd => exact ⟨_, rfl⟩
  | _ => cases h

/-- A command accepted by a ready block, to be run action by action. -/
theorem inv_beginCommand {i : Instr} {h : Header} {s : State} (hh : headerOf i = some h) (hs : Inv s)
    (hb : s.busy = false) : Inv (beginCommand i s) := by
  have rest := linesAtRest_command s.finalNack hh (hs.atRest hb).2
  rw [beginCommand, enter, hh]
  exact inv_settle ((accept_order s h).trans hs.1) (by rw [accept_buf]; exact hs.2.1) (accept_busy s h) rest

/-- Settles O53: a step is a command's from a ready block, the clock's, or one that changes nothing the invariant
sees. -/
theorem everyStepKeepsTheInvariant : Obligations.EveryStepKeepsTheInvariant := by
  intro s t hs hstep
  have taken (ms : List Move) : Inv { s with moves := ms } := hs.congr rfl
  obtain ⟨o, i, -, ho, -, -⟩ | ⟨-, rfl | ⟨m, ms, -, enabled, move⟩⟩ := step_cases hstep
  · exact absurd ho (by simp [hs.1])
  · exact inv_clockStep hs
  · have idle (hm : moveWaits m = true) : s.busy = false :=
      ((portsReady_iff s).1 (enabled.resolve_right (by simp [hm]))).1
    obtain ⟨rfl, rfl⟩ | ⟨rfl, rfl⟩ | ⟨w, i, rfl, hd, run⟩ | ⟨w, i, rfl, hd, rfl⟩ | ⟨w, e, -, -, rfl⟩ |
      ⟨a, v, rfl, rfl⟩ | ⟨a, rfl, rfl⟩ | ⟨rfl, rfl⟩ | ⟨c, d, rfl, rfl⟩ := move
    · exact inv_clockStep (taken ms)
    · exact inv_releaseRst (taken ms)
    · obtain ⟨h, hh⟩ := exists_headerOf (isCommand_and_row_mem_of_decodeCommand hd).1
      rw [exec_eq, hh] at run
      cases run
      exact inv_complete _ hh (taken ms) (idle rfl)
    · obtain ⟨h, hh⟩ := exists_headerOf (isCommand_and_row_mem_of_decodeCommand hd).1
      exact inv_beginCommand hh (taken ms) (idle rfl)
    · exact hs.congr rfl
    · exact inv_hostBufWrite a v (taken ms) (idle rfl)
    · exact hs.congr rfl
    · exact hs.congr rfl
    · exact hs.congr rfl

/-! The outputs in a state of the invariant -/

theorem goodFinal_iff (s : State) :
    goodFinal s = true ↔ runEnded s = true ∧ s.txn = .idle ∧ s.seqErr = false ∧ s.illCmd = false := by
  simp [goodFinal, and_assoc]

theorem runEnded_iff (s : State) :
    runEnded s = true ↔ s.busy = false ∧ ∀ m ∈ s.moves, isHostStep m = false := by
  simp [runEnded, and_comm]

/-- A step that is not the host's is the environment's or the block's turn. -/
theorem isHostStep_eq_false_iff (m : Move) : isHostStep m = false ↔ (∃ c d, m = .envMove c d) ∨ m = .pass := by
  cases m <;> simp [isHostStep]

/-- Both lines are released in a good final state of the invariant (R245). -/
theorem Inv.released_of_goodFinal {s : State} (h : Inv s) (hg : goodFinal s = true) :
    s.sclOut = true ∧ s.sdaOut = true := by
  obtain ⟨ended, idle, kept, -⟩ := (goodFinal_iff s).1 hg
  obtain ⟨scl, sda⟩ := (h.atRest ((runEnded_iff s).1 ended).1).2
  exact ⟨scl, sda idle kept⟩

/-- Settles O54: between commands nothing remains to be done, so the lines are as the invariant has them at the end. -/
theorem linesAreReleasedBetweenTransactions : Obligations.LinesAreReleasedBetweenTransactions :=
  fun _ hs => ⟨fun hb => (hs.atRest hb).2, hs.released_of_goodFinal⟩

/-- Settles O55: each clause read off the definition; `goodFinal` names every flag but `NAK`. -/
theorem runEndsWhenTheHostHasNoFurtherStep : Obligations.RunEndsWhenTheHostHasNoFurtherStep := by
  refine fun s => ⟨?_, goodFinal_iff s, fun _ => rfl, Inv.released_of_goodFinal⟩
  simp only [runEnded_iff, isHostStep_eq_false_iff]

/-- Settles O52: nothing remains to be done at reset, and both outputs are 1. -/
theorem invariantHoldsAtReset : Obligations.InvariantHoldsAtReset :=
  inv_of_atRest rfl wf_reset rfl rfl ⟨rfl, fun _ _ => rfl⟩

end Sys2Proof.Machine
end

section
/-! SUPPORT. The remaining signal primitives (spec/40_signal_primitives.md rules R121, R124 to R128) as `exec` runs
them, the stability of the data output outside start and stop (section 5), and the round trip of the serializer. -/

namespace Sys2Proof.Machine

/-! Results and traces -/

/-- An internal operation answers the end of its script, run in place. -/
theorem exec_of_internal {i : Instr} (h : headerOf i = none) (s : State) :
    exec i s = .next (runScript (scriptOf s.finalNack i) s) := by
  rw [exec_eq, h]

/-- Its trace is its script's. -/
theorem instrTrace_of_internal {i : Instr} (h : headerOf i = none) (s : State) :
    instrTrace i s = traceOf (scriptOf s.finalNack i) s := by
  simp only [instrTrace, enter, h]

/-- Settles O21: one `wait()`, counted, and `T_HALF` is one more than a natural number. -/
theorem waitHalfPeriodOnlyWaits : Obligations.WaitHalfPeriodOnlyWaits := by
  intro s
  have result : exec .waitHalfPeriod s = .next { s with k := s.k + 1, waits := s.waits + 1 } := rfl
  refine ⟨result, rfl, fun t ht => ?_, Nat.succ_pos _, by decide⟩
  cases result.symm.trans ht
  exact Nat.succ_mul s.waits Config.tHalf

/-- The recorder sees a start condition exactly when both levels were high. -/
theorem start_mem_record_startTrace (c d : Bool) (p : Option Bool) :
    Mark.start ∈ (recordAll ⟨c, d, p⟩ startTrace).2 ↔ c = true ∧ d = true := by
  cases c <;> cases d <;> cases p <;> simp [startTrace, recordAll, record]

/-- Settles O24: the script's two actions; the recorder's rule for a falling data level with the clock high. -/
theorem writeStartPullsDataThenClockLow : Obligations.WriteStartPullsDataThenClockLow := by
  intro s
  have trace : instrTrace .writeStart s = startTrace := traceOf_writeStartScript s
  rw [trace]
  refine ⟨?_, rfl, rfl, rfl, start_mem_record_startTrace, by decide⟩
  exact (exec_of_internal rfl s).trans (congrArg _ (runScript_writeStartScript s))

/-- Settles O25: the script's four actions; the recorder forgets the bit of a clock pulse that ends in a stop. -/
theorem writeStopReleasesBothLines : Obligations.WriteStopReleasesBothLines := by
  intro s
  have trace : instrTrace .writeStop s = stopTrace := traceOf_writeStopScript s
  rw [trace]
  refine ⟨?_, rfl, fun _ => rfl, by decide⟩
  exact (exec_of_internal rfl s).trans (congrArg _ (runScript_writeStopScript s))

/-- Settles O26: a read bit cell whose sample goes to the two flags. -/
theorem readAckRecordsTheSlotInTwoFlags : Obligations.ReadAckRecordsTheSlotInTwoFlags := by
  refine fun s => ⟨?_, traceOf_readAckScript s, by decide⟩
  exact (exec_of_internal rfl s).trans (congrArg _ (runScript_readAckScript s))

/-- Settles O27: two written bit cells with a constant bit. -/
theorem writeAckSendsZeroAndWriteNackSendsOne : Obligations.WriteAckSendsZeroAndWriteNackSendsOne := by
  refine fun s => ⟨?_, traceOf_writeBitScript (.const false) s, ?_, traceOf_writeBitScript (.const true) s,
    by decide, by decide⟩
  · exact (exec_of_internal rfl s).trans (congrArg _ (runScript_writeBitScript (.const false) s))
  · exact (exec_of_internal rfl s).trans (congrArg _ (runScript_writeBitScript (.const true) s))

/-- Settles O20: with the data line pulled low the wired AND is 0. -/
theorem sampleIsTheWiredAnd : Obligations.SampleIsTheWiredAnd := by
  refine fun s => ⟨rfl, rfl, fun h => ?_⟩
  simp [performAct, h]

/-! The data output while the clock is high (R129) -/

/-- A trace in which the data output is stable while the clock is high, whatever the outputs were before. -/
def Stable (es : List Event) : Prop := ∀ scl sda, dataStableWhileHigh scl sda es = true

/-- A written bit cell drives the data line after the clock has fallen. -/
theorem Stable.writeCell_append (x : Bool) {es : List Event} (h : Stable es) : Stable (writeCell x ++ es) :=
  fun _ _ => h true x

/-- So does a read bit cell, which releases it. -/
theorem Stable.readCell_append (b : Bool) {es : List Event} (h : Stable es) : Stable (readCell b ++ es) :=
  fun _ _ => h true true

theorem stable_nil : Stable [] := fun _ _ => rfl

theorem stable_writeCell (x : Bool) : Stable (writeCell x) := stable_nil.writeCell_append x

theorem stable_readCell (b : Bool) : Stable (readCell b) := stable_nil.readCell_append b

theorem stable_flatMap_writeCell (l : List Nat) (x : Nat → Bool) : Stable (l.flatMap fun j => writeCell (x j)) := by
  induction l with
  | nil => exact stable_nil
  | cons j l ih => exact ih.writeCell_append (x j)

theorem stable_flatMap_readCell (l : List Nat) (b : Nat → Bool) : Stable (l.flatMap fun j => readCell (b j)) := by
  induction l with
  | nil => exact stable_nil
  | cons j l ih => exact ih.readCell_append (b j)

/-- Settles O28: every bit and byte transfer is a sequence of bit cells. -/
theorem dataChangesOnlyWhileTheClockIsLow : Obligations.DataChangesOnlyWhileTheClockIsLow := by
  intro i s internal noStart noStop
  suffices h : Stable (instrTrace i s) from h _ _
  cases i with
  | waitHalfPeriod => exact fun _ _ => rfl
  | writeBit x =>
    rw [instrTrace_of_internal rfl, scriptOf, traceOf_writeBitScript]
    exact stable_writeCell _
  | readBit =>
    rw [instrTrace_of_internal rfl, scriptOf, traceOf_readBitScript]
    exact stable_readCell _
  | readAck =>
    rw [instrTrace_of_internal rfl, scriptOf, traceOf_readAckScript]
    exact stable_readCell _
  | writeAck => exact stable_writeCell false
  | writeNack => exact stable_writeCell true
  | writeByte x =>
    rw [instrTrace_of_internal rfl, scriptOf, traceOf_writeByteScript]
    exact stable_flatMap_writeCell _ _
  | readByte =>
    rw [instrTrace_of_internal rfl, scriptOf, traceOf_readByteScript]
    exact stable_flatMap_readCell _ _
  | writeStart => exact absurd rfl noStart
  | writeStop => exact absurd rfl noStop
  | _ => cases internal

/-! The round trip of the serializer -/

/-- Settles O31: both sides list the bits from bit 7 down. -/
theorem readByteReturnsWhatWriteByteSent : Obligations.ReadByteReturnsWhatWriteByteSent := by
  intro b s t h
  have trace : instrTrace (.writeByte b) t = writeByteTrace b := traceOf_writeByteScript (.imm b) t
  have values : (List.range 8).map (fun j => b.getLsbD (7 - j)) = (List.range 8).map (answerAt s) := by
    rw [← h, trace]
    rfl
  refine ⟨_, (readByteAssemblesEightSamplesMsbFirst s).1, BitVec.eq_of_getLsbD_eq fun j hj => ?_⟩
  have bit : b.getLsbD (7 - (7 - j)) = answerAt s (7 - j) :=
    List.map_inj_left.1 values (7 - j) (List.mem_range.2 (by omega))
  rw [sampledByte_getLsbD s 0 hj, Nat.zero_add, ← bit, Nat.sub_sub_self (Nat.le_of_lt_succ hj)]

end Sys2Proof.Machine
end

section
/-! SUPPORT. The step agent by agent (spec/00_scope.md rule R14, spec/70_reset_and_hazards.md rules R220, R246): the
block's turn, a command called, presented or ordered, the host's buffer, the environment, and reset. -/

namespace Sys2Proof.Machine

/-! Reset (R40, R220) -/

/-- Settles O1: the values of `State.reset`, and reset leaves BUF's list. -/
theorem resetStateHasTheValuesOfR40 : Obligations.ResetStateHasTheValuesOfR40 :=
  ⟨rfl, rfl, rfl, rfl, rfl, rfl, rfl, rfl, rfl, rfl, rfl, rfl, fun _ _ => rfl⟩

/-- Settles O2: `assertRst` takes every register from `State.reset`, whose schedule is empty. -/
theorem resetLeavesTheTableOfR40 : Obligations.ResetLeavesTheTableOfR40 :=
  have noFlag : status State.reset = 0#8 := by decide
  ⟨fun _ => ⟨rfl, rfl, rfl, rfl, rfl, rfl, rfl, rfl, noFlag, rfl, rfl, fun _ => rfl⟩, rfl, rfl⟩

/-! Whose step it is -/

theorem step_of_fetch_run {s t : State} {i : Instr} (h : fetch s = .run i t) : step s = exec i t := by
  simp only [step, h]

/-- The block's turn, by the schedule or because nothing else can move: the state its step starts from. -/
inductive ClockTurn (s : State) : State → Prop
  | empty (h : s.moves = []) : ClockTurn s s
  | waiting {m : Move} {ms : List Move} (h : s.moves = m :: ms) (hr : portsReady s = false) (hw : moveWaits m = true) :
      ClockTurn s s
  | pass {ms : List Move} (h : s.moves = .pass :: ms) : ClockTurn s { s with moves := ms }

theorem step_of_clockTurn {s t : State} (ho : s.rst = true ∨ s.order = none) (h : ClockTurn s t) :
    step s = .next (clockStep t) := by
  refine step_of_fetch_done ?_
  cases h with
  | empty h => simp [fetch_eq_fetchMove ho, fetchMove, h]
  | waiting h hr hw => simp [fetch_eq_fetchMove ho, fetchMove, h, hr, hw]
  | pass h => exact fetch_of_enabled_move ho h (.inr rfl)

theorem portsReady_of_high {s : State} (h : s.rst = true) : portsReady s = false := by simp [portsReady, h]

theorem portsReady_of_busy {s : State} (h : s.busy = true) : portsReady s = false := by simp [portsReady, h]

/-- Settles O3: the ports are not ready, so a request waits and the clock edge resets. -/
theorem nothingIsAcceptedWhileRstIsHigh : Obligations.NothingIsAcceptedWhileRstIsHigh := by
  intro s hr
  have closed : portsReady s = false := portsReady_of_high hr
  refine ⟨closed, closed, hr, rfl, fun hm => ?_, fun ms hm => ?_, fun ms hm => ?_⟩
  · have turn : ClockTurn s s := by
      obtain hm | ⟨m, ms, hm, hw⟩ := hm
      · exact .empty hm
      · exact .waiting hm closed hw
    rw [step_of_clockTurn (.inl hr) turn, clockStep_of_high hr]
  · rw [step_of_clockTurn (.inl hr) (.pass hm), clockStep_of_high (by exact hr)]
  · have taken := step_of_fetch_done (fetch_of_enabled_move (.inl hr) hm (.inr rfl))
    rw [releaseRst_of_high (by exact hr)] at taken
    exact ⟨_, taken, rfl, rfl, rfl⟩

/-! Decoding and the control byte -/

/-- Settles O4: sixteen closed words. -/
theorem decoderReadsTheVectorsOfTheSpec : Obligations.DecoderReadsTheVectorsOfTheSpec := by
  unfold Obligations.DecoderReadsTheVectorsOfTheSpec
  decide

/-- Settles O9: the address stands above the direction bit, and a byte is its bits 7:1 above its bit 0. -/
theorem controlByteIsAddressAndDirection : Obligations.ControlByteIsAddressAndDirection := by
  refine ⟨fun a rw => ⟨?_, ctrlByte_getLsbD_zero a rw, fun j hj => ?_⟩, fun b => ?_, by decide, by decide⟩
  · rw [ctrlByte, BitVec.append_def, BitVec.shiftLeftZeroExtend_eq, BitVec.setWidth'_eq]
  · rw [ctrlByte, BitVec.getLsbD_append]
    simp
  · exact ⟨b.extractLsb' 1 7, b.getLsbD 0, upperBits_append_bit_zero b⟩

/-! Commands called and operations ordered -/

/-- Settles O10: the ports are ready, so the call is taken off the schedule and runs. -/
theorem stepExecutesTheCalledCommand : Obligations.StepExecutesTheCalledCommand := by
  intro s w ms i hr ho hm hb hd
  refine step_of_fetch_run ((fetch_of_enabled_move (.inr ho) hm (.inl ((portsReady_iff s).2 ⟨hb, hr⟩))).trans ?_)
  simp only [takeMove, callWord, show decodeCommand w = .ok i from hd]

/-- Settles O11: the order port comes before the schedule. -/
theorem stepExecutesTheOrderWord : Obligations.StepExecutesTheOrderWord := by
  intro s o hr ho
  have port : fetch s = fetchOrder o s := by simp [fetch, hr, ho]
  refine ⟨fun i hd => step_of_fetch_run (port.trans ?_), fun e hd => ?_⟩
  · simp only [fetchOrder, show decodeOrder o = .ok i from hd]
  · simp only [step, port, fetchOrder, show decodeOrder o = .error e from hd]

/-! The block between commands and in the middle of one -/

/-- Settles O16: an empty schedule leaves the step to a block that takes none. -/
theorem idleBlockDoesNothing : Obligations.IdleBlockDoesNothing := by
  intro s hr ho hm hb
  rw [step_of_clockTurn (.inr ho) (.empty hm), clockStep_of_low hr, blockStep_of_idle hb]

/-- A state with the progress of the running command struck out. -/
def withoutWork (s : State) : State := { s with todo := [], busy := false }

/-- `settle` touches, of the fields no script touches, only `BUSY` and the remaining work. -/
theorem settle_sameOutside (ms : List Micro) (s : State) : SameOutside (withoutWork s) (withoutWork (settle ms s)) := by
  obtain ⟨us, r, b, -, -, eq⟩ := settle_eq_runScript ms s
  rw [eq]
  exact { runScript_sameOutside us s with busy := rfl, todo := rfl }

/-- So does a step of the block. -/
theorem blockStep_sameOutside (s : State) : SameOutside (withoutWork s) (withoutWork (blockStep s)) := by
  obtain ⟨us, r, b, eq⟩ := blockStep_eq_runScript s
  rw [eq]
  exact { runScript_sameOutside us s with busy := rfl, todo := rfl }

/-- With `BUSY = 1` a request at the head of the schedule leaves the step to the block. -/
theorem step_of_waiting_request {s : State} {m : Move} {ms : List Move} (hr : s.rst = false) (ho : s.order = none)
    (hm : s.moves = m :: ms) (hw : moveWaits m = true) (hb : s.busy = true) : step s = .next (blockStep s) := by
  rw [step_of_clockTurn (.inr ho) (.waiting hm (portsReady_of_busy hb) hw), clockStep_of_low hr]

/-- Settles O14: the ports are not ready, and the block's step does not touch the schedule. -/
theorem requestsWaitWhileBusy : Obligations.RequestsWaitWhileBusy := by
  intro s m ms hr ho hm hw hb
  have closed : portsReady s = false := portsReady_of_busy hb
  exact ⟨step_of_waiting_request hr ho hm hw hb, (blockStep_sameOutside s).moves.trans hm, closed, closed⟩

/-- Settles O59: a store in the list of written bytes, read back. -/
theorem bufReadsAfterWrites : Obligations.BufReadsAfterWrites := by
  intro s a v
  have reads (x : Byte) : bufByte (bufSet a v s) x = if x = a then v else bufByte s x := byteIn_cellStore s.buf a x v
  exact ⟨(reads a).trans (if_pos rfl), fun x hx => (reads x).trans (if_neg hx)⟩

/-- Settles O17: between commands the request is taken off the schedule; in the middle of one it waits. -/
theorem hostReadsAndWritesBufWhileIdle : Obligations.HostReadsAndWritesBufWhileIdle := by
  refine ⟨fun s a v ms hr ho hb => ?_, fun s a v ms hr ho hb hm => ?_, fun s hr => ?_⟩
  · have taken {m : Move} (hm : s.moves = m :: ms) : fetch s = takeMove m { s with moves := ms } :=
      fetch_of_enabled_move (.inr ho) hm (.inl ((portsReady_iff s).2 ⟨hb, hr⟩))
    refine ⟨fun hm => ⟨_, step_of_fetch_done (taken hm), rfl, ?_⟩, fun hm => step_of_fetch_done (taken hm)⟩
    exact bufReadsAfterWrites { s with moves := ms } a v
  · have outside := blockStep_sameOutside s
    refine ⟨?_, outside.moves, outside.bufRdata⟩
    obtain hm | hm := hm
    · exact step_of_waiting_request hr ho hm rfl hb
    · exact step_of_waiting_request hr ho hm rfl hb
  · simp [bufReady, portsReady, hr]

/-- Settles O19: an environment move never waits. -/
theorem environmentMovesAtAnyTime : Obligations.EnvironmentMovesAtAnyTime :=
  fun _ _ _ _ ho hm => ⟨_, step_of_fetch_done (fetch_of_enabled_move (.inr ho) hm (.inr rfl)), rfl, rfl, rfl⟩

/-! Sticky flags and the parameter (R28, R29, R199) -/

/-- The parameter stays; and with `rst = 0` the sticky flags stay where they are 1, and `rst` and the order port too. -/
def StickyStay (s t : State) : Prop :=
  t.finalNack = s.finalNack ∧
    (s.rst = false →
      (s.seqErr = true → t.seqErr = true) ∧ (s.illCmd = true → t.illCmd = true) ∧ t.rst = false ∧ t.order = s.order)

theorem StickyStay.trans {s t u : State} (h : StickyStay s t) (h' : StickyStay t u) : StickyStay s u := by
  obtain ⟨param, low⟩ := h
  obtain ⟨param', low'⟩ := h'
  refine ⟨param'.trans param, fun hr => ?_⟩
  obtain ⟨seqErr, illCmd, rst, order⟩ := low hr
  obtain ⟨seqErr', illCmd', rst', order'⟩ := low' rst
  exact ⟨seqErr' ∘ seqErr, illCmd' ∘ illCmd, rst', order'.trans order⟩

/-- A step that changes none of the fields. -/
theorem stickyStay_of_eq {s t : State} (hf : t.finalNack = s.finalNack) (he : t.seqErr = s.seqErr)
    (hi : t.illCmd = s.illCmd) (hr : t.rst = s.rst) (ho : t.order = s.order) : StickyStay s t :=
  ⟨hf, fun h => ⟨he.trans, hi.trans, hr.trans h, ho⟩⟩

theorem SameOutside.stickyStay {s t : State} (h : SameOutside s t) : StickyStay s t :=
  stickyStay_of_eq h.finalNack h.seqErr h.illCmd h.rst h.order

/-- Acceptance may raise `SEQ_ERR`. -/
theorem stickyStay_accept (h : Header) (s : State) : StickyStay s (accept h s) :=
  ⟨accept_finalNack s h, fun hr =>
    ⟨fun he => by rw [accept_seqErr, he]; rfl, fun hi => by rw [accept_illCmd, hi], by rw [accept_rst, hr],
      accept_order s h⟩⟩

theorem stickyStay_enter (i : Instr) (s : State) : StickyStay s (enter i s) := by
  unfold enter
  split
  · exact stickyStay_accept _ s
  · exact stickyStay_of_eq rfl rfl rfl rfl rfl

theorem stickyStay_exec {i : Instr} {s t : State} (h : exec i s = .next t) : StickyStay s t := by
  have script (ms : List Micro) (u : State) : StickyStay u (runScript ms u) := (runScript_sameOutside ms u).stickyStay
  rw [exec_eq] at h
  cases h
  split
  · exact (stickyStay_accept _ s).trans (script _ _)
  · exact script _ s

theorem stickyStay_beginCommand (i : Instr) (s : State) : StickyStay s (beginCommand i s) :=
  (stickyStay_enter i s).trans (settle_sameOutside _ _).stickyStay

/-- The clock edge of reset clears the flags, but only with `rst = 1`. -/
theorem stickyStay_clockStep (s : State) : StickyStay s (clockStep s) := by
  cases hr : s.rst with
  | false => rw [clockStep_of_low hr]; exact (blockStep_sameOutside s).stickyStay
  | true => rw [clockStep_of_high hr]; exact ⟨rfl, fun low => by cases hr.symm.trans low⟩

theorem stickyStay_releaseRst (s : State) : StickyStay s (releaseRst s) := by
  cases hr : s.rst with
  | false => rw [releaseRst_of_low hr]; exact stickyStay_of_eq rfl rfl rfl rfl rfl
  | true => rw [releaseRst_of_high hr]; exact ⟨rfl, fun low => by cases hr.symm.trans low⟩

/-- Settles O56: of the steps with `rst = 0`, acceptance and an illegal word may raise a flag, and no other touches
one. -/
theorem stickyFlagsAndParameterStay : Obligations.StickyFlagsAndParameterStay := by
  intro s t hstep
  have taken (ms : List Move) : StickyStay s { s with moves := ms } := stickyStay_of_eq rfl rfl rfl rfl rfl
  obtain ⟨o, i, -, -, -, run⟩ | ⟨port, move⟩ := step_cases hstep
  · exact stickyStay_exec run
  · suffices stay : StickyStay s t by
      refine ⟨stay.1, fun hr => ?_⟩
      have empty : s.order = none := port.resolve_left (by simp [hr])
      rw [← empty]
      exact stay.2 hr
    obtain rfl | ⟨m, ms, -, -, ⟨-, rfl⟩ | ⟨-, rfl⟩ | ⟨w, i, -, -, run⟩ | ⟨w, i, -, -, rfl⟩ | ⟨w, e, -, -, rfl⟩ |
      ⟨a, v, -, rfl⟩ | ⟨a, -, rfl⟩ | ⟨-, rfl⟩ | ⟨c, d, -, rfl⟩⟩ := move
    · exact stickyStay_clockStep s
    · exact (taken ms).trans (stickyStay_clockStep _)
    · exact (taken ms).trans (stickyStay_releaseRst _)
    · exact (taken ms).trans (stickyStay_exec run)
    · exact (taken ms).trans (stickyStay_beginCommand i _)
    · exact ⟨rfl, fun hr => ⟨id, fun _ => rfl, hr, rfl⟩⟩
    · exact stickyStay_of_eq rfl rfl rfl rfl rfl
    · exact stickyStay_of_eq rfl rfl rfl rfl rfl
    · exact stickyStay_of_eq rfl rfl rfl rfl rfl
    · exact stickyStay_of_eq rfl rfl rfl rfl rfl

/-! The order of commands (R160, R166, R167) -/

/-- The value of `TXN` a command leaves is what its script writes, if it writes it. -/
theorem runScript_scriptOf_txn {i : Instr} (hi : i.isCommand = true) (fn : Bool) (s : State) :
    (runScript (scriptOf fn i) s).txn = txnAfter i s.txn := by
  cases i with
  | write a n => rw [scriptOf, runScript_writeScript_eq]; rfl
  | read a n => rw [scriptOf, runScript_readScript]; rfl
  | writeBegin a => exact writeBeginScript_txn
  | writeBlock n => exact runScript_txn fun m hm => (writeBlockScript_plain n m hm).2
  | writeEnd => rw [scriptOf, runScript_writeEndScript]; rfl
  | _ => cases hi

/-- A command completes, raises `SEQ_ERR` where it is out of order, and moves `TXN`. -/
theorem exec_command_order {i : Instr} (hi : i.isCommand = true) (s : State) :
    ∃ t, exec i s = .next t ∧ t.seqErr = (s.seqErr || !preHolds i s.txn) ∧ t.txn = txnAfter i s.txn := by
  obtain ⟨h, hh⟩ := exists_headerOf hi
  have run : exec i s = .next (complete (scriptOf s.finalNack i) (accept h s)) := by rw [exec_eq, hh]
  refine ⟨_, run, ?_, ?_⟩
  · rw [preHolds, hh]
    exact (runScript_sameOutside _ _).seqErr.trans (accept_seqErr s h)
  · rw [complete_txn, runScript_scriptOf_txn hi, accept_txn]

/-- Settles O57: by induction on the list, one command after another. -/
theorem seqErrTellsTheOrderOfCommands : Obligations.SeqErrTellsTheOrderOfCommands := by
  intro is
  induction is with
  | nil => exact fun s _ => ⟨s, rfl, by simp [legalOrder], rfl⟩
  | cons i is ih =>
    intro s hs
    obtain ⟨hi, his⟩ := List.forall_mem_cons.1 hs
    obtain ⟨u, run, seqErr, txn⟩ := exec_command_order hi s
    obtain ⟨t, runs, seqErr', txn'⟩ := ih u his
    refine ⟨t, by simp only [execAll, run, runs], ?_, ?_⟩
    · rw [seqErr', seqErr, txn, legalOrder, Bool.not_and, Bool.or_assoc]
    · rw [txn', txn, List.foldl_cons]

end Sys2Proof.Machine
end

section
/-! SUPPORT. Counts (spec/42_transactions.md rule R170, spec/40_signal_primitives.md section 5): how often a kind of
entry stands in the script of each operation, and so a kind of action in its trace. -/

namespace Sys2Proof.Machine

/-! Entries of a script and events of its trace -/

def isWait : Micro → Bool
  | .act .wait => true
  | _ => false

def isSample : Micro → Bool
  | .act .sample => true
  | _ => false

def isSclHigh : Micro → Bool
  | .act (.scl true) => true
  | _ => false

/-- What holds of an action's event whatever the state is counted in a trace as in its script. -/
theorem countP_traceOf {p : Event → Bool} {q : Micro → Bool} (act : ∀ a s, p (eventOf a s) = q (.act a))
    (upd : ∀ u, q (.upd u) = false) (ms : List Micro) (s : State) : (traceOf ms s).countP p = ms.countP q := by
  induction ms generalizing s with
  | nil => rfl
  | cons m ms ih =>
    cases m with
    | act a => simp only [traceOf, List.countP_cons, act, ih]
    | upd u => simp only [traceOf, List.countP_cons, upd, ih, Bool.false_eq_true, if_false, Nat.add_zero]

theorem countP_instrTrace {p : Event → Bool} {q : Micro → Bool} (act : ∀ a s, p (eventOf a s) = q (.act a))
    (upd : ∀ u, q (.upd u) = false) (i : Instr) (s : State) :
    (instrTrace i s).countP p = (scriptOf s.finalNack i).countP q :=
  countP_traceOf act upd _ _

theorem instrTrace_length (i : Instr) (s : State) : (instrTrace i s).length = actions (scriptOf s.finalNack i) := by
  rw [← List.countP_true]
  exact countP_instrTrace (p := fun _ => true) (fun _ _ => rfl) (fun _ => rfl) i s

theorem instrTrace_count_wait (i : Instr) (s : State) :
    (instrTrace i s).count .wait = (scriptOf s.finalNack i).countP isWait :=
  countP_instrTrace (fun a _ => by cases a <;> rfl) (fun _ => rfl) i s

theorem instrTrace_count_sclHigh (i : Instr) (s : State) :
    (instrTrace i s).count (.scl true) = (scriptOf s.finalNack i).countP isSclHigh :=
  countP_instrTrace (fun a _ => by rcases a with (_ | _) | _ | _ | _ <;> rfl) (fun _ => rfl) i s

theorem instrTrace_samples_length (i : Instr) (s : State) :
    ((instrTrace i s).filter fun e => decide (skeleton e = .sample false)).length =
      (scriptOf s.finalNack i).countP isSample := by
  rw [← List.countP_eq_length_filter]
  exact countP_instrTrace (fun a _ => by cases a <;> rfl) (fun _ => rfl) i s

/-! Counts in the scripts with a loop -/

variable (q : Micro → Bool)

theorem countP_repeatScript (k : Nat) (body : List Micro) : (repeatScript k body).countP q = k * body.countP q := by
  induction k with
  | zero => rw [Nat.zero_mul]; rfl
  | succ k ih => rw [repeatScript, List.countP_append, ih, Nat.succ_mul, Nat.add_comm]

theorem countP_writeBlockScript (n : Byte) :
    (writeBlockScript n).countP q = [.upd .iZero].countP q + n.toNat * writeBlockBody.countP q := by
  rw [writeBlockScript, List.countP_append, countP_repeatScript]

theorem countP_writeScript (n : Byte) :
    (writeScript n).countP q =
      writeBeginScript.countP q + ([.upd .iZero].countP q + n.toNat * writeBlockBody.countP q) +
        writeEndScript.countP q := by
  rw [writeScript, List.countP_append, List.countP_append, countP_writeBlockScript]

theorem countP_readLoopScript (n : Nat) :
    (readLoopScript n).countP q = n * readByteStore.countP q + (n - 1) * writeAckScript.countP q := by
  cases n with
  | zero => simp [readLoopScript]
  | succ m =>
    rw [readLoopScript, List.countP_append, countP_repeatScript, List.countP_append, Nat.add_sub_cancel]
    ring

theorem countP_finalNackScript (fn : Bool) (n : Byte) :
    (finalNackScript fn n).countP q = nackExtra fn n * writeNackScript.countP q := by
  rw [finalNackScript, nackExtra]
  split
  · rw [Nat.one_mul]
  · rw [Nat.zero_mul]; rfl

theorem countP_readScript (fn : Bool) (n : Byte) :
    (readScript fn n).countP q =
      readHeadScript.countP q + (n.toNat * readByteStore.countP q + (n.toNat - 1) * writeAckScript.countP q) +
        nackExtra fn n * writeNackScript.countP q + writeStopScript.countP q + [.upd (.setTxn .idle)].countP q := by
  rw [readScript_eq, readTailScript]
  simp only [List.countP_append, countP_readLoopScript, countP_finalNackScript, Nat.add_assoc]

/-! The table of R170 -/

theorem actions_scriptOf (fn : Bool) (i : Instr) : actions (scriptOf fn i) = actionCount fn i := by
  cases i with
  | write a n =>
    refine (countP_writeScript isAct n).trans ?_
    change 42 + (0 + n.toNat * 47) + 11 = 53 + 47 * n.toNat
    omega
  | read a n =>
    refine (countP_readScript isAct fn n).trans ?_
    change 49 + (n.toNat * 56 + (n.toNat - 1) * 5) + nackExtra fn n * 5 + 4 + 0 =
      53 + 56 * n.toNat + 5 * (n.toNat - 1) + 5 * nackExtra fn n
    omega
  | writeBlock n => exact actions_writeBlockScript n
  | _ => rfl

theorem countP_isWait_scriptOf (fn : Bool) (i : Instr) : (scriptOf fn i).countP isWait = waitCount fn i := by
  cases i with
  | write a n =>
    refine (countP_writeScript isWait n).trans ?_
    change 16 + (0 + n.toNat * 19) + 3 = 19 + 19 * n.toNat
    omega
  | read a n =>
    refine (countP_readScript isWait fn n).trans ?_
    change 19 + (n.toNat * 24 + (n.toNat - 1) * 2) + nackExtra fn n * 2 + 0 + 0 =
      19 + 24 * n.toNat + 2 * (n.toNat - 1) + 2 * nackExtra fn n
    omega
  | writeBlock n =>
    refine (countP_writeBlockScript isWait n).trans ?_
    change 0 + n.toNat * 19 = 19 * n.toNat
    omega
  | _ => rfl

theorem countP_isSample_scriptOf (fn : Bool) (i : Instr) : (scriptOf fn i).countP isSample = sampleCount i := by
  cases i with
  | write a n =>
    refine (countP_writeScript isSample n).trans ?_
    change 0 + (0 + n.toNat * 1) + 1 = n.toNat + 1
    omega
  | read a n =>
    refine (countP_readScript isSample fn n).trans ?_
    change 1 + (n.toNat * 8 + (n.toNat - 1) * 0) + nackExtra fn n * 0 + 0 + 0 = 1 + 8 * n.toNat
    omega
  | writeBlock n =>
    refine (countP_writeBlockScript isSample n).trans ?_
    change 0 + n.toNat * 1 = n.toNat
    omega
  | _ => rfl

theorem nackExtra_le (fn : Bool) (n : Byte) : nackExtra fn n ≤ if fn then 1 else 0 := by
  cases fn with
  | false => exact Nat.le_refl 0
  | true =>
    unfold nackExtra
    split <;> decide

/-- No operation is longer than `READ` with the greatest count. -/
theorem actionCount_le (i : Instr) (fn : Bool) : actionCount fn i ≤ if fn then 15608 else 15603 := by
  have most : 15603 + 5 * (if fn then 1 else 0) = if fn then 15608 else 15603 := by cases fn <;> rfl
  rw [← most]
  cases i with
  | write a n | writeBlock n =>
    have := n.isLt
    simp only [actionCount]
    omega
  | read a n =>
    have := n.isLt
    have := nackExtra_le fn n
    simp only [actionCount]
    omega
  | _ => simp only [actionCount]; omega

/-- Settles O43: the counts in the scripts, loop by loop. -/
theorem lengthsOfEveryOperation : Obligations.LengthsOfEveryOperation := by
  refine ⟨fun i s => ⟨?_, ?_, ?_⟩, actionCount_le, fun _ => ⟨rfl, rfl⟩⟩
  · rw [instrTrace_length, actions_scriptOf]
  · rw [instrTrace_count_wait, countP_isWait_scriptOf]
  · rw [instrTrace_samples_length, countP_isSample_scriptOf]

/-! Clock pulses, loads and stores -/

theorem countP_isSclHigh_scriptOf {i : Instr} (hi : i.isCommand = true) (fn : Bool) :
    (scriptOf fn i).countP isSclHigh = bitPulses fn i + stopPulses i := by
  cases i with
  | write a n =>
    refine (countP_writeScript isSclHigh n).trans ?_
    change 8 + (0 + n.toNat * 9) + 2 = 9 * (n.toNat + 1) + 1
    omega
  | read a n =>
    refine (countP_readScript isSclHigh fn n).trans ?_
    change 9 + (n.toNat * 8 + (n.toNat - 1) * 1) + nackExtra fn n * 1 + 1 + 0 =
      9 + 8 * n.toNat + (n.toNat - 1) + nackExtra fn n + 1
    omega
  | writeBlock n =>
    refine (countP_writeBlockScript isSclHigh n).trans ?_
    change 0 + n.toNat * 9 = 9 * n.toNat + 0
    omega
  | writeBegin | writeEnd => rfl
  | _ => cases hi

/-- A byte is loaded from BUF once in each pass of the loop of R162, and nowhere else. -/
theorem count_bufLoad_scriptOf (i : Instr) (fn : Bool) :
    (scriptOf fn i).count (.upd (.shrLoad .bufAtI)) = bufLoads i := by
  cases i with
  | write a n =>
    refine (countP_writeScript (· == .upd (.shrLoad .bufAtI)) n).trans ?_
    change 0 + (0 + n.toNat * 1) + 0 = n.toNat
    omega
  | read a n =>
    refine (countP_readScript (· == .upd (.shrLoad .bufAtI)) fn n).trans ?_
    change 0 + (n.toNat * 0 + (n.toNat - 1) * 0) + nackExtra fn n * 0 + 0 + 0 = 0
    omega
  | writeBlock n =>
    refine (countP_writeBlockScript (· == .upd (.shrLoad .bufAtI)) n).trans ?_
    change 0 + n.toNat * 1 = n.toNat
    omega
  | _ => rfl

/-- A byte is stored to BUF once in each pass of the loop of R165, and nowhere else. -/
theorem count_bufStore_scriptOf (i : Instr) (fn : Bool) :
    (scriptOf fn i).count (.upd .bufStore) = bufStores i := by
  cases i with
  | write a n =>
    refine (countP_writeScript (· == .upd .bufStore) n).trans ?_
    change 0 + (0 + n.toNat * 0) + 0 = 0
    omega
  | read a n =>
    refine (countP_readScript (· == .upd .bufStore) fn n).trans ?_
    change 0 + (n.toNat * 1 + (n.toNat - 1) * 0) + nackExtra fn n * 0 + 0 + 0 = n.toNat
    omega
  | writeBlock n =>
    refine (countP_writeBlockScript (· == .upd .bufStore) n).trans ?_
    change 0 + n.toNat * 0 = 0
    omega
  | _ => rfl

/-- Settles O44: the clock pulses counted in the trace, loads and stores in the script. -/
theorem bitsLoadsAndStoresOfEveryCommand : Obligations.BitsLoadsAndStoresOfEveryCommand := by
  refine fun i s hi => ⟨?_, count_bufLoad_scriptOf i _, count_bufStore_scriptOf i _⟩
  rw [instrTrace_count_sclHigh, countP_isSclHigh_scriptOf hi]

/-! Time (R240) -/

theorem perform_waits (m : Micro) (s : State) : (perform m s).waits = s.waits + if isWait m then 1 else 0 := by
  rcases m with a | u
  · cases a <;> rfl
  · cases u <;> rfl

/-- A script counts its waits. -/
theorem runScript_waits (ms : List Micro) (s : State) : (runScript ms s).waits = s.waits + ms.countP isWait := by
  induction ms generalizing s with
  | nil => rfl
  | cons m ms ih => rw [runScript_cons, ih, perform_waits, List.countP_cons, Nat.add_assoc, Nat.add_comm (ms.countP _)]

theorem exec_waits {i : Instr} {s t : State} (h : exec i s = .next t) :
    t.waits = s.waits + waitCount s.finalNack i := by
  rw [exec_eq] at h
  cases h
  rw [← countP_isWait_scriptOf]
  split
  · exact (runScript_waits _ _).trans (by rw [accept_waits])
  · exact runScript_waits _ s

/-- Settles O45: the waits counted are the waits of the script. -/
theorem operationsLastAtLeastTheirWaits : Obligations.OperationsLastAtLeastTheirWaits := by
  refine ⟨fun i s t h => ?_, fun _ => ⟨rfl, rfl⟩⟩
  rw [leastElapsed, exec_waits h, Nat.add_mul, ← leastElapsed]

end Sys2Proof.Machine
end

section
/-! SUPPORT. The sequencer step by step (spec/10_state.md rule R31, spec/30_encoding.md rules R95, R98): the part of a
script that `j` steps of the block have done and the part they have left, and so the state in the middle of a command.
-/

namespace Sys2Proof.Machine

/-! A script cut after an action and its updates -/

/-- The entries done with `j` actions: up to the next action, so with the updates placed before it (log 18). -/
def doneBy : Nat → List Micro → List Micro
  | _, [] => []
  | j, .upd u :: ms => .upd u :: doneBy j ms
  | 0, .act _ :: _ => []
  | j + 1, .act a :: ms => .act a :: doneBy j ms

/-- The entries that remain then. -/
def leftAfter : Nat → List Micro → List Micro
  | _, [] => []
  | j, .upd _ :: ms => leftAfter j ms
  | 0, .act a :: ms => .act a :: ms
  | j + 1, .act _ :: ms => leftAfter j ms

theorem actions_cons_act (a : Act) (ms : List Micro) : actions (.act a :: ms) = actions ms + 1 :=
  List.countP_cons_of_pos rfl

theorem actions_cons_upd (u : Upd) (ms : List Micro) : actions (.upd u :: ms) = actions ms :=
  List.countP_cons_of_neg (by simp [isAct])

theorem doneBy_append_leftAfter (j : Nat) (ms : List Micro) : doneBy j ms ++ leftAfter j ms = ms := by
  induction ms generalizing j with
  | nil => rfl
  | cons m ms ih =>
    cases m with
    | upd u => exact congrArg (_ :: ·) (ih j)
    | act a =>
      cases j with
      | zero => rfl
      | succ j => exact congrArg (_ :: ·) (ih j)

theorem mem_of_mem_doneBy {j : Nat} {m : Micro} {ms : List Micro} (h : m ∈ doneBy j ms) : m ∈ ms := by
  rw [← doneBy_append_leftAfter j ms]
  exact List.mem_append_left _ h

theorem actions_doneBy (j : Nat) (ms : List Micro) : actions (doneBy j ms) = min j (actions ms) := by
  induction ms generalizing j with
  | nil => exact (Nat.min_zero j).symm
  | cons m ms ih =>
    cases m with
    | upd u => simp only [doneBy, actions_cons_upd, ih]
    | act a =>
      cases j with
      | zero => exact (Nat.zero_min _).symm
      | succ j => simp only [doneBy, actions_cons_act, ih, Nat.succ_min_succ]

theorem headIsAction_leftAfter (j : Nat) (ms : List Micro) : headIsAction (leftAfter j ms) = true := by
  induction ms generalizing j with
  | nil => rfl
  | cons m ms ih =>
    cases m with
    | upd u => exact ih j
    | act a =>
      cases j with
      | zero => rfl
      | succ j => exact ih j

/-- Something remains exactly while there are actions to do. -/
theorem leftAfter_isEmpty (j : Nat) (ms : List Micro) : (leftAfter j ms).isEmpty = !decide (j < actions ms) := by
  induction ms generalizing j with
  | nil => rfl
  | cons m ms ih =>
    cases m with
    | upd u => rw [leftAfter, actions_cons_upd, ih]
    | act a =>
      cases j with
      | zero => simp [leftAfter, actions_cons_act]
      | succ j => simp [leftAfter, actions_cons_act, ih]

/-- Before the actions of `xs` are done nothing of what follows is. -/
theorem doneBy_append_of_lt {j : Nat} {xs : List Micro} (ys : List Micro) (h : j < actions xs) :
    doneBy j (xs ++ ys) = doneBy j xs := by
  induction xs generalizing j with
  | nil => cases h
  | cons m xs ih =>
    cases m with
    | upd u =>
      rw [actions_cons_upd] at h
      exact congrArg (_ :: ·) (ih h)
    | act a =>
      cases j with
      | zero => rfl
      | succ j =>
        rw [actions_cons_act] at h
        exact congrArg (_ :: ·) (ih (Nat.lt_of_succ_lt_succ h))

/-- Once they are, all of `xs` is. -/
theorem doneBy_append_add (xs ys : List Micro) (j : Nat) : doneBy (actions xs + j) (xs ++ ys) = xs ++ doneBy j ys := by
  induction xs with
  | nil => rw [show actions [] = 0 from rfl, Nat.zero_add]; rfl
  | cons m xs ih =>
    cases m with
    | upd u =>
      rw [actions_cons_upd]
      exact congrArg (_ :: ·) ih
    | act a =>
      rw [actions_cons_act, Nat.succ_add]
      exact congrArg (_ :: ·) ih

/-! The block in the middle of a script -/

/-- After `j` steps the block has run what `j` actions do, and `BUSY` tells whether an action remains (R31, R98). -/
theorem runBlock_settle (j : Nat) (ms : List Micro) {s : State} (hb : s.busy = true) :
    runBlock j (settle ms s) =
      { runScript (doneBy j ms) s with todo := leftAfter j ms, busy := decide (j < actions ms) } := by
  induction ms generalizing s j with
  | nil => exact runBlock_of_idle j rfl
  | cons m ms ih =>
    have busy : (perform m s).busy = true := (perform_sameOutside m s).busy.trans hb
    cases m with
    | upd u =>
      rw [actions_cons_upd]
      exact ih j busy
    | act a =>
      rw [actions_cons_act]
      cases j with
      | zero => simp [runBlock, settle, doneBy, leftAfter, ← hb]
      | succ j =>
        rw [runBlock, blockStep_settle_act a ms hb, ih j busy]
        simp only [doneBy, leftAfter, runScript_cons, Nat.succ_lt_succ_iff]

/-- A command is accepted in the state `accept` answers. -/
theorem beginCommand_of_header {i : Instr} {h : Header} (s : State) (hh : headerOf i = some h) :
    beginCommand i s = settle (scriptOf s.finalNack i) (accept h s) := by
  rw [beginCommand, enter, hh]

/-- A command `j` steps after its acceptance. -/
theorem runBlock_beginCommand {i : Instr} {h : Header} (j : Nat) (s : State) (hh : headerOf i = some h) :
    runBlock j (beginCommand i s) =
      { runScript (doneBy j (scriptOf s.finalNack i)) (accept h s) with
        todo := leftAfter j (scriptOf s.finalNack i), busy := decide (j < actionCount s.finalNack i) } := by
  rw [beginCommand_of_header s hh, runBlock_settle j _ (accept_busy s h), actions_scriptOf]

/-- Settles O51: of the `L` actions of the script `j` are done. -/
theorem busyUntilTheLastAction : Obligations.BusyUntilTheLastAction := by
  intro i h s j hh hj
  rw [runBlock_beginCommand j s hh]
  have counted : (runScript (doneBy j (scriptOf s.finalNack i)) (accept h s)).k =
      0 + BitVec.ofNat 14 (actions (doneBy j (scriptOf s.finalNack i))) := runScript_k _ _
  rw [actions_doneBy, actions_scriptOf, Nat.min_eq_left hj, zero_add] at counted
  exact ⟨rfl, counted⟩

/-! Acceptance (R95) -/

/-- A header holds the fields of the word (R91, R95). -/
theorem fields_eq_header {w : CmdWord} {i : Instr} {h : Header} (hd : decodeCommand w = .ok i)
    (hh : headerOf i = some h) : fieldOp w = h.op ∧ fieldAddr w = h.addr ∧ fieldN w = h.n := by
  have encoded : encode i = .command (commandWord h.op h.addr h.n) := by
    cases i with
    | write | read | writeBegin | writeBlock | writeEnd => cases hh; rfl
    | _ => cases hh
  obtain rfl : commandWord h.op h.addr h.n = w :=
    PortWord.command.inj (encoded.symm.trans ((decodeCommand_eq_ok_iff_encode w i).1 hd))
  exact ⟨fieldOp_commandWord .., fieldAddr_commandWord .., fieldN_commandWord ..⟩

/-- What acceptance does of a script: nothing, or the update of `I` that begins `WRITE_BLOCK` (log 10). -/
theorem doneBy_zero_scriptOf {i : Instr} {h : Header} (hh : headerOf i = some h) (fn : Bool) :
    doneBy 0 (scriptOf fn i) = [] ∨ h.op = 0x4#4 ∧ doneBy 0 (scriptOf fn i) = [.upd .iZero] := by
  cases i with
  | write | read | writeBegin | writeEnd => exact .inl rfl
  | writeBlock n =>
    cases hh
    have rest : doneBy 0 (repeatScript n.toNat writeBlockBody) = [] := by cases n.toNat <;> rfl
    exact .inr ⟨rfl, congrArg (_ :: ·) rest⟩
  | _ => cases hh

/-- Settles O12: the accepted state with what remains of the script, `I` cleared where the script begins with that. -/
theorem acceptanceLoadsTheLatchAndPerformsNoAction : Obligations.AcceptanceLoadsTheLatchAndPerformsNoAction := by
  intro s w ms i h hr ho hm hb hd hh
  obtain ⟨op, addr, n⟩ := fields_eq_header hd hh
  have accepted := step_of_legalWord hr ho hb hm hd
  have remains : decide (0 < actionCount s.finalNack i) = false → leftAfter 0 (scriptOf s.finalNack i) = [] := by
    intro none
    rw [← List.isEmpty_iff, leftAfter_isEmpty, actions_scriptOf, none]
    rfl
  rw [show beginCommand i { s with moves := ms } = runBlock 0 (beginCommand i { s with moves := ms }) from rfl,
    runBlock_beginCommand 0 _ hh] at accepted
  rw [op, addr, n]
  obtain nothing | ⟨block, clear⟩ := doneBy_zero_scriptOf hh s.finalNack
  · refine ⟨s.i, _, _, accepted.trans ?_, decide_eq_true_iff, remains, .inl rfl⟩
    simp only [nothing, runScript_nil, accept_eq]
  · refine ⟨0#8, _, _, accepted.trans ?_, decide_eq_true_iff, remains, .inr ⟨block, rfl⟩⟩
    simp only [clear, runScript_cons, runScript_nil, perform_upd, applyUpd, accept_eq]
    rfl

/-! One step of the block (R12, R31) -/

theorem exists_upd_iff (m : Micro) : (∃ u, m = .upd u) ↔ isAct m = false := by
  cases m <;> simp [isAct]

theorem actions_eq_zero_iff (ms : List Micro) : actions ms = 0 ↔ ∀ m ∈ ms, ∃ u, m = .upd u := by
  simp only [exists_upd_iff, actions, List.countP_eq_zero, Bool.not_eq_true]

/-- With no action done, only updates are. -/
theorem doneBy_zero_updates (ms : List Micro) : ∀ m ∈ doneBy 0 ms, ∃ u, m = .upd u := by
  rw [← actions_eq_zero_iff, actions_doneBy, Nat.zero_min]

/-- The fields that only actions change. -/
structure SameOnLines (s t : State) : Prop where
  k : t.k = s.k
  sclOut : t.sclOut = s.sclOut
  sdaOut : t.sdaOut = s.sdaOut
  waits : t.waits = s.waits
  smp : t.smp = s.smp

theorem applyUpd_sameOnLines (u : Upd) (s : State) : SameOnLines s (applyUpd u s) := by
  cases u <;> constructor <;> rfl

theorem runScript_updates_sameOnLines {us : List Micro} (h : ∀ m ∈ us, ∃ u, m = .upd u) (s : State) :
    SameOnLines s (runScript us s) := by
  induction us generalizing s with
  | nil => constructor <;> rfl
  | cons m us ih =>
    obtain ⟨⟨u, rfl⟩, hus⟩ := List.forall_mem_cons.1 h
    have first := applyUpd_sameOnLines u s
    have rest := ih hus (applyUpd u s)
    exact ⟨rest.k.trans first.k, rest.sclOut.trans first.sclOut, rest.sdaOut.trans first.sdaOut,
      rest.waits.trans first.waits, rest.smp.trans first.smp⟩

/-- Settles O15: the action, and of what follows it what no further action does. -/
theorem blockStepPerformsOneAction : Obligations.BlockStepPerformsOneAction := by
  intro s a r ms hr ho hb ht hm
  have turn : ClockTurn s { s with moves := ms } := by
    obtain hm | ⟨rfl, hm | ⟨m, ms', hm, hw⟩⟩ := hm
    · exact .pass hm
    · exact .empty hm
    · exact .waiting hm (portsReady_of_busy hb) hw
  have updates := doneBy_zero_updates r
  have stepped : step s = .next
      { runScript (doneBy 0 r) (stepAct a { s with moves := ms }) with
        todo := leftAfter 0 r, busy := !(leftAfter 0 r).isEmpty } := by
    have busy : (stepAct a { s with moves := ms }).busy = true := (perform_sameOutside (.act a) _).busy.trans hb
    rw [step_of_clockTurn (.inr ho) turn, clockStep_of_low (by exact hr), blockStep_of_act (by exact hb) (by exact ht),
      leftAfter_isEmpty, Bool.not_not, ← runBlock_settle 0 r busy]
    rfl
  obtain ⟨k, scl, sda, waits, smp⟩ := runScript_updates_sameOnLines updates (stepAct a { s with moves := ms })
  refine ⟨doneBy 0 r, leftAfter 0 r, _, (doneBy_append_leftAfter 0 r).symm, updates, headIsAction_leftAfter 0 r,
    stepped, rfl, k.trans ?_, ?_, ?_, ?_, ?_, ?_, ?_⟩
  · cases a <;> rfl
  · simp only [nextEvent, hb, if_true, ht]
  · rintro x rfl
    exact ⟨scl, sda⟩
  · rintro x rfl
    exact ⟨scl, sda.trans (bitOf_congr x rfl)⟩
  · rintro rfl
    exact ⟨waits, scl, sda⟩
  · rintro rfl
    exact ⟨smp, scl, sda⟩
  · rw [← actions_eq_zero_iff, leftAfter_isEmpty]
    simp

/-! The block's steps and `exec` (R31, R98) -/

/-- The actions of the block's steps are the trace of the script. -/
theorem blockTrace_settle (ms : List Micro) {s : State} (hb : s.busy = true) :
    blockTrace (actions ms) (settle ms s) = traceOf ms s := by
  induction ms generalizing s with
  | nil => rfl
  | cons m ms ih =>
    have busy : (perform m s).busy = true := (perform_sameOutside m s).busy.trans hb
    cases m with
    | upd u =>
      rw [actions_cons_upd]
      exact ih busy
    | act a =>
      have event : nextEvent (settle (.act a :: ms) s) = some (eventOf a s) := by
        simp only [nextEvent, settle, hb, if_true]
        exact congrArg some (eventOf_congr rfl rfl rfl rfl a)
      rw [actions_cons_act, blockTrace, blockStep_settle_act a ms hb, ih busy, event]
      rfl

theorem core_run_succ {M : Host.Core} {s t : M.State} (n : Nat) (h : M.step s = .next t) :
    M.run (n + 1) s = M.run n t := by
  simp only [Host.Core.run, h]

/-- With nothing scheduled the machine's steps are the block's. -/
theorem core_run_of_idle_host (n : Nat) {s : State} (hr : s.rst = false) (ho : s.order = none) (hm : s.moves = []) :
    core.run n s = .next (runBlock n s) := by
  induction n generalizing s with
  | zero => rfl
  | succ n ih =>
    have outside := blockStep_sameOutside s
    have stepped : step s = .next (blockStep s) := by
      rw [step_of_clockTurn (.inr ho) (.empty hm), clockStep_of_low hr]
    rw [core_run_succ (M := core) n stepped]
    exact ih (outside.rst.trans hr) (outside.order.trans ho) (outside.moves.trans hm)

/-- With a step for each action a command is complete. -/
theorem runBlock_beginCommand_complete {i : Instr} {h : Header} (s : State) (hh : headerOf i = some h) :
    runBlock (actionCount s.finalNack i) (beginCommand i s) = complete (scriptOf s.finalNack i) (accept h s) := by
  have all := runBlock_settle_append (scriptOf s.finalNack i) [] 0 (accept_busy s h)
  rw [List.append_nil, Nat.add_zero, actions_scriptOf, ← beginCommand_of_header s hh] at all
  exact all

/-- Acceptance leaves the schedule, `rst` and the order port alone. -/
theorem beginCommand_sameOutside {i : Instr} {h : Header} (s : State) (hh : headerOf i = some h) :
    SameOutside (withoutWork (accept h s)) (withoutWork (beginCommand i s)) := by
  rw [beginCommand_of_header s hh]
  exact settle_sameOutside _ _

/-- Settles O50: as many steps as the script has actions run all of it. -/
theorem blockStepsDoWhatExecDoes : Obligations.BlockStepsDoWhatExecDoes := by
  intro s w i hr ho hm hb hd
  obtain ⟨h, hh⟩ := exists_headerOf (isCommand_and_row_mem_of_decodeCommand hd).1
  have outside := beginCommand_sameOutside { s with moves := [] } hh
  have steps := core_run_of_idle_host (s := beginCommand i { s with moves := [] }) (actionCount s.finalNack i)
    (outside.rst.trans ((accept_rst _ h).trans hr)) (outside.order.trans ((accept_order _ h).trans ho))
    (outside.moves.trans (accept_moves _ h))
  refine ⟨complete (scriptOf s.finalNack i) (accept h { s with moves := [] }), ?_, ?_, ?_⟩
  · rw [exec_eq, hh]
  · rw [Nat.add_comm]
    refine (core_run_succ (M := core) _ (step_of_legalWord hr ho hb hm hd)).trans (steps.trans ?_)
    exact congrArg _ (runBlock_beginCommand_complete { s with moves := [] } hh)
  · rw [← actions_scriptOf, beginCommand_of_header _ hh, instrTrace_of_command _ hh]
    exact blockTrace_settle _ (accept_busy _ h)

end Sys2Proof.Machine
end

section
/-! SUPPORT. ACKF and NAK along a command (spec/10_state.md rules R26, R27, R45; spec/60_exceptions.md rule R198):
what a number of acknowledge-read slots leaves in the two flags, part after part of a script. -/

namespace Sys2Proof.Machine

/-! Cutting a script made of parts -/

theorem doneBy_of_le {j : Nat} {ms : List Micro} (h : actions ms ≤ j) : doneBy j ms = ms := by
  obtain ⟨d, rfl⟩ := Nat.exists_eq_add_of_le h
  have all := doneBy_append_add ms [] d
  rwa [List.append_nil, show doneBy d [] = [] from rfl, List.append_nil] at all

/-- What is done of two parts, one after another. -/
theorem doneBy_append (j : Nat) (xs ys : List Micro) :
    doneBy j (xs ++ ys) = if j < actions xs then doneBy j xs else xs ++ doneBy (j - actions xs) ys := by
  split
  next h => exact doneBy_append_of_lt ys h
  next h =>
    obtain ⟨d, rfl⟩ := Nat.exists_eq_add_of_le (Nat.le_of_not_lt h)
    rw [doneBy_append_add, Nat.add_sub_cancel_left]

/-- A property of the entries of the loop of R165 is one of the entries of its later passes. -/
theorem forall_mem_readLoopScript {p : Micro → Prop} (h : ∀ m ∈ writeAckScript ++ readByteStore, p m) (n : Nat) :
    ∀ m ∈ readLoopScript n, p m := by
  cases n with
  | zero => simp [readLoopScript]
  | succ k =>
    intro m hm
    obtain hm | hm := List.mem_append.1 hm
    · exact h m (List.mem_append_right _ hm)
    · exact h m (mem_of_mem_repeatScript hm)

/-- `READ` after its acknowledge-read slot. -/
theorem readScript_eq_opening (fn : Bool) (n : Byte) :
    readScript fn n =
      writeStartScript ++ writeByteScript (.ctrl true) ++
        (readAckScript ++
          ([.upd .iZero] ++ readLoopScript n.toNat ++ readTailScript fn n ++ [.upd (.setTxn .idle)])) := by
  simp only [readScript_eq, readHeadScript, List.append_assoc]

/-! The flags after some slots -/

/-- `t` has the flags of `s` after `m` acknowledge-read slots, `NAK` having been cleared before them or not. -/
def FlagsAfter (clear : Bool) (m : Nat) (s t : State) : Prop :=
  t.ackf = (if m = 0 then s.ackf else !answerAt s (m - 1)) ∧ t.nak = ((s.nak && !clear) || anySample s m)

/-- The next slots take the next answers. -/
theorem FlagsAfter.trans {c : Bool} {m l : Nat} {s t u : State} (h : FlagsAfter c m s t)
    (answers : ∀ j, answerAt t j = answerAt s (m + j)) (h' : FlagsAfter false l t u) : FlagsAfter c (m + l) s u := by
  obtain ⟨ackf, nak⟩ := h
  obtain ⟨ackf', nak'⟩ := h'
  have any : anySample s (m + l) = (anySample s m || anySample t l) := by
    have shifted : anySample t l = ((List.range l).map (m + ·)).any (answerAt s) := by
      rw [List.any_map]
      exact congrArg ((List.range l).any ·) (funext answers)
    rw [shifted, anySample, List.range_add, List.any_append]
    rfl
  refine ⟨?_, ?_⟩
  · rw [ackf', ackf]
    cases l with
    | zero => rfl
    | succ l => rw [if_neg l.succ_ne_zero, if_neg (by omega), answers, show m + (l + 1) - 1 = m + (l + 1 - 1) by omega]
  · rw [nak', nak, any, Bool.not_false, Bool.and_true, Bool.or_assoc]

/-- Whether an entry writes one of the two flags. -/
def writesFlag : Micro → Bool
  | .upd .nakClear | .upd .ackRecord => true
  | _ => false

theorem perform_flags {m : Micro} (h : writesFlag m = false) (s : State) :
    (perform m s).ackf = s.ackf ∧ (perform m s).nak = s.nak := by
  rcases m with x | u
  · cases x <;> exact ⟨rfl, rfl⟩
  · cases u with
    | nakClear | ackRecord => cases h
    | _ => exact ⟨rfl, rfl⟩

theorem flagsAfter_plain {ms : List Micro} (h : ∀ m ∈ ms, writesFlag m = false) (s : State) :
    FlagsAfter false 0 s (runScript ms s) := by
  induction ms generalizing s with
  | nil => exact ⟨rfl, by simp [anySample]⟩
  | cons m ms ih =>
    obtain ⟨hm, hms⟩ := List.forall_mem_cons.1 h
    obtain ⟨ackf, nak⟩ := ih hms (perform m s)
    obtain ⟨ackf', nak'⟩ := perform_flags hm s
    exact ⟨ackf.trans ackf', by rw [runScript_cons, nak, nak']; rfl⟩

/-- So does any part of such a script. -/
theorem flagsAfter_plain_doneBy {ms : List Micro} (h : ∀ m ∈ ms, writesFlag m = false) (j : Nat) (s : State) :
    FlagsAfter false 0 s (runScript (doneBy j ms) s) :=
  flagsAfter_plain (fun m hm => h m (mem_of_mem_doneBy hm)) s

/-- An update that writes neither flag, before the next action. -/
theorem flagsAfter_upd {u : Upd} (hu : writesFlag (.upd u) = false) {j m : Nat} {ms : List Micro} {s : State}
    (answers : ∀ j, answerAt (applyUpd u s) j = answerAt s j)
    (h : FlagsAfter false m (applyUpd u s) (runScript (doneBy j ms) (applyUpd u s))) :
    FlagsAfter false m s (runScript (doneBy j (.upd u :: ms)) s) := by
  have first : FlagsAfter false 0 s (applyUpd u s) := flagsAfter_plain (ms := [.upd u]) (by simpa using hu) s
  have all := first.trans (by simpa using answers) h
  rwa [Nat.zero_add] at all

/-! Slots -/

theorem flagsAfter_slot (s : State) : FlagsAfter false 1 s (runScript readAckScript s) := by
  rw [runScript_readAckScript]
  simp [FlagsAfter, anySample, answerAt]

/-- Until the last of its actions a slot has written neither flag. -/
theorem flagsAfter_slot_doneBy {ys : List Micro} (hy : ∀ m ∈ ys, writesFlag m = false) (j : Nat) (s : State) :
    FlagsAfter false (if j < 7 then 0 else 1) s (runScript (doneBy j (readAckScript ++ ys)) s) := by
  have length : actions readAckScript = 7 := rfl
  rw [doneBy_append, length]
  split
  next h =>
    have cell : ∀ m ∈ readBitScript, writesFlag m = false := by decide
    rw [readAckScript, doneBy_append_of_lt _ (by exact h)]
    exact flagsAfter_plain_doneBy cell j s
  next h =>
    rw [runScript_append]
    refine (flagsAfter_slot s).trans (fun i => ?_) (flagsAfter_plain_doneBy hy (j - 7) _)
    rw [runScript_readAckScript]
    exact answerAt_sampled 1 i s

/-- A pass of the loop of R162 is a slot and a byte. -/
theorem writeBlockBody_eq :
    writeBlockBody = readAckScript ++ (.upd (.shrLoad .bufAtI) :: writeByteScript .shr ++ [.upd .iInc]) := by
  simp only [writeBlockBody, List.append_assoc, List.cons_append, List.nil_append]

theorem flagsAfter_pass_doneBy (j : Nat) (s : State) :
    FlagsAfter false (if j < 7 then 0 else 1) s (runScript (doneBy j writeBlockBody) s) := by
  rw [writeBlockBody_eq]
  exact flagsAfter_slot_doneBy (by decide) j s

/-- The payload of a write and what follows it, of which `f` tells the slots ended: one slot in each pass of 47
actions. -/
theorem flagsAfter_payload_doneBy {ys : List Micro} {f : Nat → Nat}
    (hy : ∀ j s, FlagsAfter false (f j) s (runScript (doneBy j ys) s)) (n j : Nat) (s : State) :
    FlagsAfter false (if j < 47 * n then (j + 40) / 47 else n + f (j - 47 * n)) s
      (runScript (doneBy j (repeatScript n writeBlockBody ++ ys)) s) := by
  induction n generalizing j s with
  | zero => simpa [repeatScript] using hy j s
  | succ n ih =>
    have length : actions writeBlockBody = 47 := rfl
    rw [repeatScript, List.append_assoc, doneBy_append, length]
    obtain h | h := Nat.lt_or_ge j 47
    · have slots : (j + 40) / 47 = if j < 7 then 0 else 1 := by split_ifs <;> omega
      rw [if_pos h, if_pos (by omega), slots]
      exact flagsAfter_pass_doneBy j s
    · have slots : (if j < 47 * (n + 1) then (j + 40) / 47 else n + 1 + f (j - 47 * (n + 1))) =
          1 + if j - 47 < 47 * n then (j - 47 + 40) / 47 else n + f (j - 47 - 47 * n) := by
        rw [show j - 47 * (n + 1) = j - 47 - 47 * n by omega]
        split_ifs <;> omega
      have pass : FlagsAfter false 1 s (runScript writeBlockBody s) := by
        have all := flagsAfter_pass_doneBy 47 s
        rwa [doneBy_of_le length.le] at all
      rw [if_neg h.not_gt, slots, runScript_append]
      refine pass.trans (fun i => ?_) (ih (j - 47) _)
      rw [runScript_writeBlockBody]
      exact answerAt_sampled 1 i s

/-! The start condition -/

/-- `NAK` is cleared with the first action of a command that begins with a start condition (R45). -/
theorem flagsAfter_start_doneBy (dir : Bool) (j : Nat) (s : State) :
    FlagsAfter (decide (0 < j)) 0 s
      (runScript (doneBy j (writeStartScript ++ writeByteScript (.ctrl dir))) s) := by
  cases j with
  | zero => exact ⟨rfl, by simp [anySample, writeStartScript, doneBy]⟩
  | succ j =>
    have plain : ∀ m ∈ .act (.scl false) :: writeByteScript (.ctrl dir), writesFlag m = false := by
      cases dir <;> decide
    obtain ⟨ackf, nak⟩ :=
      flagsAfter_plain_doneBy plain j (perform (.upd .nakClear) (perform (.act (.sda (.const false))) s))
    exact ⟨ackf, nak.trans (by simp [perform_upd, applyUpd, anySample])⟩

theorem flagsAfter_opening_doneBy (dir : Bool) {ys : List Micro} {j m : Nat} (short : j < 42 → m = 0)
    (hy : ∀ s, FlagsAfter false m s (runScript (doneBy (j - 42) ys) s)) (s : State) :
    FlagsAfter (decide (0 < j)) m s
      (runScript (doneBy j (writeStartScript ++ writeByteScript (.ctrl dir) ++ ys)) s) := by
  have length : actions (writeStartScript ++ writeByteScript (.ctrl dir)) = 42 := rfl
  have start := flagsAfter_start_doneBy dir j s
  rw [doneBy_append, length]
  obtain h | h := Nat.lt_or_ge j 42
  · rwa [if_pos h, short h]
  · rw [doneBy_of_le (length.trans_le h)] at start
    rw [if_neg h.not_gt, runScript_append, ← Nat.zero_add m]
    refine start.trans (fun i => ?_) (hy _)
    rw [runScript_startAndControl, Nat.zero_add]
    rfl

/-! The five commands (R45, R198) -/

theorem readRest_writesFlag (fn : Bool) (n : Byte) :
    ∀ m ∈ [.upd .iZero] ++ readLoopScript n.toNat ++ readTailScript fn n ++ [.upd (.setTxn .idle)],
      writesFlag m = false := by
  have loop := forall_mem_readLoopScript (p := fun m => writesFlag m = false) (by decide) n.toNat
  have tail : ∀ m ∈ readTailScript fn n, writesFlag m = false := by
    rw [readTailScript, finalNackScript]
    split <;> decide
  simp only [List.forall_mem_append]
  exact ⟨⟨⟨by decide, loop⟩, tail⟩, by decide⟩

/-- The flags of a command after `j` of its actions, from the state in which its script begins. -/
theorem flagsAfter_command {i : Instr} (hi : i.isCommand = true) (fn : Bool) (j : Nat) (s : State) :
    FlagsAfter (sendsStart i && decide (0 < j)) (slotsEnded i j) s (runScript (doneBy j (scriptOf fn i)) s) := by
  have closing (j : Nat) (s : State) :
      FlagsAfter false (if j < 7 then 0 else 1) s (runScript (doneBy j writeEndScript) s) := by
    rw [writeEndScript, List.append_assoc]
    exact flagsAfter_slot_doneBy (by decide) j s
  cases i with
  | writeBegin a =>
    refine flagsAfter_opening_doneBy false (fun _ => rfl) (fun t => ?_) s
    exact flagsAfter_plain_doneBy (by decide) _ t
  | writeEnd => exact closing j s
  | writeBlock n =>
    have payload := flagsAfter_payload_doneBy (ys := []) (f := fun _ => 0)
      (fun j s => flagsAfter_plain_doneBy (by decide) j s) n.toNat j (applyUpd .iZero s)
    have slots : (if j < 47 * n.toNat then (j + 40) / 47 else n.toNat + 0) = min n.toNat ((j + 40) / 47) := by
      split_ifs <;> omega
    rw [slots, List.append_nil] at payload
    exact flagsAfter_upd rfl (fun _ => rfl) payload
  | write a n =>
    have slots : slotsEnded (.write a n) j = if j - 42 < 47 * n.toNat then (j - 42 + 40) / 47
        else n.toNat + if j - 42 - 47 * n.toNat < 7 then 0 else 1 := by
      change min (n.toNat + 1) ((j - 2) / 47) = _
      split_ifs <;> omega
    have short : j < 42 → slotsEnded (.write a n) j = 0 := by
      change _ → min (n.toNat + 1) ((j - 2) / 47) = 0
      omega
    rw [scriptOf, writeScript, writeBeginScript, List.append_assoc, List.append_assoc]
    refine flagsAfter_opening_doneBy false short (fun t => ?_) s
    rw [slots]
    exact flagsAfter_upd rfl (fun _ => rfl)
      (flagsAfter_upd rfl (fun _ => rfl) (flagsAfter_payload_doneBy closing n.toNat _ _))
  | read a n =>
    have slots : slotsEnded (.read a n) j = if j - 42 < 7 then 0 else 1 := by
      change (if j < 49 then 0 else 1) = _
      split_ifs <;> omega
    have short : j < 42 → slotsEnded (.read a n) j = 0 := fun h => if_pos (by omega)
    rw [scriptOf, readScript_eq_opening]
    refine flagsAfter_opening_doneBy true short (fun t => ?_) s
    rw [slots]
    exact flagsAfter_slot_doneBy (readRest_writesFlag fn n) _ t
  | _ => cases hi

theorem isCommand_of_headerOf {i : Instr} {h : Header} (hh : headerOf i = some h) : i.isCommand = true := by
  cases i with
  | write | read | writeBegin | writeBlock | writeEnd => rfl
  | _ => cases hh

/-- Acceptance takes no sample. -/
theorem anySample_accept (h : Header) (s : State) (m : Nat) : anySample (accept h s) m = anySample s m := by
  simp only [anySample, accept_answers, accept_samples]

/-- Settles O41: what `j` actions of the script leave in the flags, from the accepted state. -/
theorem ackFlagsChangeInTheStepsOfR45 : Obligations.AckFlagsChangeInTheStepsOfR45 := by
  intro i h s j hh
  have flags := flagsAfter_command (isCommand_of_headerOf hh) s.finalNack j (accept h s)
  rw [FlagsAfter, accept_ackf, accept_nak, answerAt_accept, anySample_accept] at flags
  rw [runBlock_beginCommand j s hh]
  exact flags

end Sys2Proof.Machine
end

section
/-! SUPPORT. BUF along a command (spec/20_memory.md rules R60, R61; spec/42_transactions.md rule R165): the entries
that write it and read it, the steps in which `READ` stores, and what does not depend on the byte no operation
reaches. -/

namespace Sys2Proof.Machine

/-! Entries that store to BUF -/

theorem perform_buf {m : Micro} (h : m ≠ .upd .bufStore) (s : State) : (perform m s).buf = s.buf := by
  rcases m with x | u
  · cases x <;> rfl
  · cases u with
    | bufStore => exact absurd rfl h
    | _ => rfl

theorem runScript_buf {ms : List Micro} (h : .upd .bufStore ∉ ms) (s : State) : (runScript ms s).buf = s.buf := by
  induction ms generalizing s with
  | nil => rfl
  | cons m ms ih =>
    rw [List.mem_cons, not_or] at h
    exact (ih h.2 (perform m s)).trans (perform_buf (Ne.symm h.1) s)

/-- No operation but `READ` holds a store (R61). -/
theorem bufStore_notMem {i : Instr} (hi : ∀ a n, i ≠ .read a n) (fn : Bool) : .upd .bufStore ∉ scriptOf fn i := by
  rw [← List.count_eq_zero, count_bufStore_scriptOf]
  cases i with
  | read a n => exact absurd rfl (hi a n)
  | _ => rfl

/-- What follows without a store leaves BUF as what came before left it. -/
theorem buf_doneBy_append {xs ys : List Micro} (hy : .upd .bufStore ∉ ys) (j : Nat) (s : State) :
    (runScript (doneBy j (xs ++ ys)) s).buf = (runScript (doneBy j xs) s).buf := by
  rw [doneBy_append]
  split
  next => rfl
  next h =>
    rw [runScript_append, runScript_buf (fun hm => hy (mem_of_mem_doneBy hm)), doneBy_of_le (Nat.le_of_not_lt h)]

/-! The stores of `READ` -/

/-- A pass of the loop up to its store. -/
def readPassScript (m : Nat) : List Micro := (if m = 0 then [] else writeAckScript) ++ readByteScript

theorem readLoopScript_succ_eq (m : Nat) :
    readLoopScript (m + 1) = readLoopScript m ++ readPassScript m ++ [.upd .bufStore, .upd .iInc] := by
  cases m with
  | zero => rfl
  | succ m => simp only [readLoopScript_succ, readPassScript, readByteStore, if_neg m.succ_ne_zero, List.append_assoc]

theorem readPassScript_bufStore (m : Nat) : .upd .bufStore ∉ readPassScript m := by
  unfold readPassScript
  split <;> decide

theorem actions_readPass (m : Nat) : actions (readLoopScript m ++ readPassScript m) = 56 + 61 * m := by
  have pass : actions (readPassScript m) = if m = 0 then 56 else 61 := by
    unfold readPassScript
    split <;> rfl
  rw [actions_append, actions_readLoopScript, pass]
  split <;> omega

/-- After `j` actions of the loop its first stores have been made, one in every 61 actions. -/
theorem buf_doneBy_readLoopScript (n j : Nat) (s : State) :
    (runScript (doneBy j (readLoopScript n)) s).buf =
      storeBytes s.buf s.i (fun x => sampledByte s (8 * x)) (min n ((j + 5) / 61)) := by
  induction n with
  | zero => rw [Nat.zero_min]; rfl
  | succ m ih =>
    have length := actions_readPass m
    obtain h | h := Nat.lt_or_ge j (56 + 61 * m)
    · rw [readLoopScript_succ_eq, doneBy_append_of_lt _ (length ▸ h), buf_doneBy_append (readPassScript_bufStore m), ih,
        show min (m + 1) ((j + 5) / 61) = min m ((j + 5) / 61) by omega]
    · have all : actions (readLoopScript (m + 1)) ≤ j := by rw [actions_readLoopScript]; omega
      rw [doneBy_of_le all, runScript_readLoopScript, show min (m + 1) ((j + 5) / 61) = m + 1 by omega]

/-- After `j` actions of `READ`: the loop begins after 49, its first store is made with the 105th. -/
theorem buf_doneBy_readScript (fn : Bool) (n : Byte) (j : Nat) (s : State) :
    (runScript (doneBy j (readScript fn n)) s).buf =
      storeBytes s.buf 0#8 (fun x => sampledByte s (1 + 8 * x)) (min n.toNat ((j - 44) / 61)) := by
  have head : actions readHeadScript = 49 := rfl
  have tail : .upd .bufStore ∉ readTailScript fn n ++ [.upd (.setTxn .idle)] := by
    rw [readTailScript, finalNackScript]
    split <;> decide
  rw [readScript_eq, List.append_assoc, buf_doneBy_append tail, doneBy_append, head]
  split
  next h =>
    rw [runScript_buf fun hm => absurd (mem_of_mem_doneBy hm) (by decide),
      show min n.toNat ((j - 44) / 61) = 0 by omega]
    rfl
  next h =>
    rw [runScript_append, buf_doneBy_readLoopScript, runScript_readHeadScript, show j - 49 + 5 = j - 44 by omega]
    have byte (x : Nat) : sampledByte (sampled 1 s) (8 * x) = sampledByte s (1 + 8 * x) := by
      simp only [sampledByte, answerAt_sampled, Nat.add_assoc]
    exact congrArg (storeBytes s.buf 0#8 · (min n.toNat ((j - 44) / 61))) (funext byte)

/-- Settles O42: from the accepted state, the stores made by then; no other command holds one. -/
theorem bufChangesInTheStepsThatEndAByteRead : Obligations.BufChangesInTheStepsThatEndAByteRead := by
  refine ⟨fun a n x s j => ?_, fun i h s j hh hi => ?_⟩
  · have stored : x.toNat < min n.toNat ((j - 44) / 61) ↔ x < n ∧ 105 + 61 * x.toNat ≤ j := by
      rw [BitVec.lt_def]
      omega
    rw [runBlock_beginCommand j s (show headerOf (.read a n) = some (readHeader a n) from rfl)]
    change byteIn (runScript (doneBy j (readScript s.finalNack n)) (accept (readHeader a n) s)).buf x = _
    rw [buf_doneBy_readScript, byteIn_storeBytes _ _ (by have := n.isLt; omega), accept_buf]
    simp only [stored, sampledByte, answerAt_accept]
    rfl
  · rw [runBlock_beginCommand j s hh]
    exact (runScript_buf (fun hm => bufStore_notMem hi _ (mem_of_mem_doneBy hm)) _).trans (accept_buf s h)

/-! The byte no operation reaches (R60) -/

/-- `t` is `s` with a BUF that differs at most in its last byte. -/
def SameButLast (s t : State) : Prop := ∃ l, t = { s with buf := l } ∧ ∀ a, a ≠ 255#8 → byteIn l a = bufByte s a

theorem sameButLast_bufSet (v : Byte) (s : State) : SameButLast s (bufSet 255#8 v s) :=
  ⟨_, rfl, (bufReadsAfterWrites s 255#8 v).2⟩

theorem perform_withBuf {m : Micro} (load : m ≠ .upd (.shrLoad .bufAtI)) (store : m ≠ .upd .bufStore)
    (l : List Host.Cell) (s : State) : perform m { s with buf := l } = { perform m s with buf := l } := by
  rcases m with x | u
  · cases x with
    | sda v => cases v <;> rfl
    | _ => rfl
  · cases u with
    | shrLoad src =>
      cases src with
      | bufAtI => exact absurd rfl load
      | _ => rfl
    | bufStore => exact absurd rfl store
    | _ => rfl

/-- A script that neither loads from BUF nor stores to it does the same whatever BUF holds. -/
theorem runScript_withBuf {ms : List Micro} (load : .upd (.shrLoad .bufAtI) ∉ ms) (store : .upd .bufStore ∉ ms)
    (l : List Host.Cell) (s : State) :
    runScript ms { s with buf := l } = { runScript ms s with buf := l } ∧
      traceOf ms { s with buf := l } = traceOf ms s := by
  induction ms generalizing s with
  | nil => exact ⟨rfl, rfl⟩
  | cons m ms ih =>
    rw [List.mem_cons, not_or] at load store
    have next := perform_withBuf (Ne.symm load.1) (Ne.symm store.1) l s
    obtain ⟨ends, traces⟩ := ih load.2 store.2 (perform m s)
    rw [← next] at ends traces
    refine ⟨ends, ?_⟩
    cases m with
    | act x => exact congrArg₂ List.cons (eventOf_congr rfl rfl rfl rfl x) traces
    | upd u => exact traces

/-- The bytes of a payload are bytes of BUF below index 255. -/
theorem ofNat_ne_last {n : Byte} {j : Nat} (h : j < n.toNat) : BitVec.ofNat 8 j ≠ 255#8 := by
  have := n.isLt
  intro e
  have : j % 256 = 255 := congrArg BitVec.toNat e
  omega

/-- BUF after a whole `READ` (R165). -/
theorem bufByte_runScript_readScript (fn : Bool) (n x : Byte) (s : State) :
    bufByte (runScript (readScript fn n) s) x =
      if x.toNat < n.toNat then sampledByte s (1 + 8 * x.toNat) else bufByte s x := by
  rw [runScript_readScript]
  exact byteIn_storeBytes s.buf _ n.isLt.le x

/-- No operation sees the last byte of BUF: the ends differ there alone, the traces agree. -/
theorem sameButLast_scriptOf {s t : State} (h : SameButLast s t) (fn : Bool) (i : Instr) :
    SameButLast (runScript (scriptOf fn i) s) (runScript (scriptOf fn i) t) ∧
      traceOf (scriptOf fn i) t = traceOf (scriptOf fn i) s := by
  obtain ⟨l, rfl, same⟩ := h
  have block (n : Byte) : writeBlockTrace { s with buf := l } n.toNat = writeBlockTrace s n.toNat :=
    List.flatMap_congr fun j hj =>
      congrArg (readCell (answerAt s j) ++ writeByteTrace ·) (same _ (ofNat_ne_last (List.mem_range.1 hj)))
  have plain (loads : bufLoads i = 0) (stores : bufStores i = 0) :
      SameButLast (runScript (scriptOf fn i) s) (runScript (scriptOf fn i) { s with buf := l }) ∧
        traceOf (scriptOf fn i) { s with buf := l } = traceOf (scriptOf fn i) s := by
    have load := List.count_eq_zero.1 ((count_bufLoad_scriptOf i fn).trans loads)
    have store := List.count_eq_zero.1 ((count_bufStore_scriptOf i fn).trans stores)
    obtain ⟨ends, traces⟩ := runScript_withBuf load store l s
    refine ⟨⟨l, ends, fun a ha => ?_⟩, traces⟩
    rw [bufByte, runScript_buf store]
    exact same a ha
  cases i with
  | read a n =>
    refine ⟨⟨storeBytes l 0#8 (fun j => sampledByte s (1 + 8 * j)) n.toNat, ?_, fun b hb => ?_⟩, ?_⟩
    · rw [scriptOf, runScript_readScript, runScript_readScript]
      rfl
    · rw [scriptOf, bufByte_runScript_readScript, byteIn_storeBytes _ _ n.isLt.le, same b hb]
    · rw [scriptOf, traceOf_readScript, traceOf_readScript]
      rfl
  | write a n =>
    refine ⟨⟨l, ?_, fun b hb => ?_⟩, ?_⟩
    · rw [scriptOf, runScript_writeScript_eq, runScript_writeScript_eq]
      rfl
    · rw [scriptOf, runScript_writeScript_eq]
      exact same b hb
    · rw [scriptOf, traceOf_writeScript_eq, traceOf_writeScript_eq, block]
      rfl
  | writeBlock n =>
    refine ⟨⟨l, ?_, fun b hb => ?_⟩, ?_⟩
    · have last : n = 0#8 ∨ bufByte { s with buf := l } (n - 1) = bufByte s (n - 1) := by
        refine or_iff_not_imp_left.2 fun hn => same _ ?_
        intro e
        exact hn (by rw [← BitVec.sub_add_cancel n 1, e]; rfl)
      rw [scriptOf, runScript_writeBlockScript, runScript_writeBlockScript]
      obtain rfl | last := last
      · rfl
      · rw [last]
        rfl
    · rw [scriptOf, runScript_writeBlockScript]
      exact same b hb
    · rw [scriptOf, traceOf_writeBlockScript, traceOf_writeBlockScript, block]
  | _ => exact plain rfl rfl

theorem sameButLast_exec {s t u : State} {i : Instr} (h : SameButLast s t) (hu : exec i s = .next u) :
    (∃ u', exec i t = .next u' ∧ SameButLast u u') ∧ instrTrace i t = instrTrace i s := by
  have param : t.finalNack = s.finalNack := by
    obtain ⟨l, rfl, -⟩ := h
    rfl
  rw [exec_eq] at hu ⊢
  cases hu
  simp only [instrTrace, enter]
  rw [param]
  cases headerOf i with
  | none =>
    obtain ⟨ends, traces⟩ := sameButLast_scriptOf h s.finalNack i
    exact ⟨⟨_, rfl, ends⟩, traces⟩
  | some hd =>
    have accepted : SameButLast (accept hd s) (accept hd t) := by
      obtain ⟨l, rfl, same⟩ := h
      refine ⟨l, ?_, fun a ha => ?_⟩
      · simp only [accept_eq]
      · rw [same a ha, bufByte, bufByte, accept_buf]
    obtain ⟨⟨l, ends, same⟩, traces⟩ := sameButLast_scriptOf accepted s.finalNack i
    refine ⟨⟨_, rfl, l, ?_, same⟩, traces⟩
    simp only [complete, ends]

/-- BUF at the end of an operation is what its script makes of it. -/
theorem exec_buf {i : Instr} {s t : State} (h : exec i s = .next t) :
    ∃ u, u.buf = s.buf ∧ t.buf = (runScript (scriptOf s.finalNack i) u).buf := by
  rw [exec_eq] at h
  cases h
  split
  next hd _ => exact ⟨accept hd s, accept_buf s hd, rfl⟩
  next => exact ⟨s, rfl, rfl⟩

theorem buf_exec {i : Instr} {s t : State} (h : exec i s = .next t) (hi : ∀ a n, i ≠ .read a n) : t.buf = s.buf := by
  obtain ⟨u, start, stop⟩ := exec_buf h
  rw [stop, runScript_buf (bufStore_notMem hi _), start]

/-- The last byte of BUF stays as it is: a `READ` stores at most 255 bytes. -/
theorem bufByte_last_exec {i : Instr} {s t : State} (h : exec i s = .next t) : bufByte t 255#8 = bufByte s 255#8 := by
  cases i with
  | read a n =>
    obtain ⟨u, start, stop⟩ := exec_buf h
    have beyond : ¬ (255#8).toNat < n.toNat := by have := n.isLt; simp; omega
    have kept := bufByte_runScript_readScript s.finalNack n 255#8 u
    rw [if_neg beyond] at kept
    rw [bufByte, stop, ← bufByte, scriptOf, kept, bufByte, start, ← bufByte]
  | _ => rw [bufByte, buf_exec h (by simp), ← bufByte]

/-- Settles O58: no store outside `READ`, and none at index 255 in it; the loads of a payload stay below 255 too. -/
theorem blockNeverTouchesTheLastByteOfBuf : Obligations.BlockNeverTouchesTheLastByteOfBuf := by
  intro i s t h
  refine ⟨bufByte_last_exec h, buf_exec h, fun v => ?_⟩
  obtain ⟨⟨t', run, l, rfl, same⟩, traces⟩ := sameButLast_exec (sameButLast_bufSet v s) h
  refine ⟨traces, _, run, rfl, fun a => ?_⟩
  split
  next ha => rw [ha, bufByte_last_exec run, (bufReadsAfterWrites s 255#8 v).1]
  next ha => exact same a ha

end Sys2Proof.Machine
end

section
/-! SUPPORT. Frames (spec/42_transactions.md rule R171, spec/95_test_vectors.md section 2): a trace that is start, bit
cells, stop as the recorder sees it; and what of a trace the samples decide (rule R175). -/

namespace Sys2Proof.Machine

/-! Bit cells as the recorder sees them -/

/-- A trace made of bit cells, with the bits they carry: the bit put on the line or the one sampled (log 20). -/
inductive Cells : List Event → List Mark → Prop
  | nil : Cells [] []
  | write (x : Bool) {es : List Event} {ms : List Mark} (h : Cells es ms) : Cells (writeCell x ++ es) (.bit x :: ms)
  | read (b : Bool) {es : List Event} {ms : List Mark} (h : Cells es ms) : Cells (readCell b ++ es) (.bit b :: ms)

theorem Cells.append {es fs : List Event} {ms ns : List Mark} (h : Cells es ms) (h' : Cells fs ns) :
    Cells (es ++ fs) (ms ++ ns) := by
  induction h with
  | nil => exact h'
  | write x _ ih => exact List.append_assoc .. ▸ ih.write x
  | read b _ ih => exact List.append_assoc .. ▸ ih.read b

theorem Cells.flatMap {f : Nat → List Event} {g : Nat → List Mark} {l : List Nat} (h : ∀ j ∈ l, Cells (f j) (g j)) :
    Cells (l.flatMap f) (l.flatMap g) := by
  induction l with
  | nil => exact .nil
  | cons j l ih =>
    obtain ⟨hj, hl⟩ := List.forall_mem_cons.1 h
    exact hj.append (ih hl)

theorem cells_writeCell (x : Bool) : Cells (writeCell x) [.bit x] := Cells.nil.write x

theorem cells_readCell (b : Bool) : Cells (readCell b) [.bit b] := Cells.nil.read b

theorem byteMarks_eq_flatMap (b : Byte) : byteMarks b = (List.range 8).flatMap fun j => [.bit (b.getLsbD (7 - j))] :=
  List.map_eq_flatMap

theorem cells_writeByteTrace (b : Byte) : Cells (writeByteTrace b) (byteMarks b) := by
  rw [byteMarks_eq_flatMap]
  exact Cells.flatMap fun _ _ => cells_writeCell _

theorem cells_readByteTrace (s : State) (j : Nat) : Cells (readByteTrace s j) (byteMarks (sampledByte s j)) := by
  rw [byteMarks_eq_flatMap]
  refine Cells.flatMap fun m hm => ?_
  have inside := List.mem_range.1 hm
  rw [sampledByte_getLsbD s j (by omega), show 7 - (7 - m) = m by omega]
  exact cells_readCell _

/-! A whole frame -/

/-- A cell's bit is emitted when the next cell, or the stop, pulls the clock low. -/
theorem recordAll_cells_stop {es : List Event} {ms : List Mark} (h : Cells es ms) :
    (∀ d, recordAll ⟨false, d, none⟩ (es ++ stopTrace) = (recorderIdle, ms ++ [.stop])) ∧
      ∀ d b, recordAll ⟨true, d, some b⟩ (es ++ stopTrace) = (recorderIdle, .bit b :: (ms ++ [.stop])) := by
  induction h with
  | nil => exact ⟨fun _ => rfl, fun _ _ => rfl⟩
  | write x _ ih =>
    obtain ⟨-, pending⟩ := ih
    refine ⟨fun d => ?_, fun d b => ?_⟩
    · simp [writeCell, recordAll, record, pending]
    · simp [writeCell, recordAll, record, pending]
  | read y _ ih =>
    obtain ⟨-, pending⟩ := ih
    refine ⟨fun d => ?_, fun d b => ?_⟩
    · simp [readCell, recordAll, record, pending]
    · simp [readCell, recordAll, record, pending]

/-- From an idle bus: one start, the bits of the cells, one stop, and nothing pending. -/
theorem recordAll_frame {es : List Event} {ms : List Mark} (h : Cells es ms) :
    recordAll recorderIdle (startTrace ++ es ++ stopTrace) = (recorderIdle, .start :: (ms ++ [.stop])) := by
  have rest := (recordAll_cells_stop h).1 false
  simp [startTrace, recordAll, record, recorderIdle, rest]

/-- The trace of `WRITE`, from any state (R164). -/
theorem instrTrace_write (a : SlaveAddr) (n : Byte) (s : State) :
    instrTrace (.write a n) s =
      startTrace ++
          (writeByteTrace (ctrlByte a false) ++ (writeBlockTrace s n.toNat ++ readCell (answerAt s n.toNat))) ++
        stopTrace := by
  rw [instrTrace_of_command s rfl, scriptOf, traceOf_writeScript_eq, writeBlockTrace_accept, answerAt_accept,
    accept_addrr, writeHeader]
  simp only [List.append_assoc]

/-- The trace of `READ`, from any state (R165). -/
theorem instrTrace_read (a : SlaveAddr) (n : Byte) (s : State) :
    instrTrace (.read a n) s =
      startTrace ++ (writeByteTrace (ctrlByte a true) ++ (readCell (answerAt s 0) ++ (readBlockTrace s n.toNat ++
        if s.finalNack = true ∧ n ≠ 0#8 then writeCell true else []))) ++ stopTrace := by
  rw [instrTrace_of_command s rfl, scriptOf, traceOf_readScript, readBlockTrace_congr (answerAt_accept _ s),
    answerAt_accept, accept_addrr, readHeader]
  simp only [List.append_assoc]

/-- Settles O48: between start and stop stand bit cells only. -/
theorem writeFrameOnTheBus : Obligations.WriteFrameOnTheBus := by
  intro a n s
  have slot (j : Nat) : Cells (readCell (answerAt s j) ++ writeByteTrace (bufByte s (BitVec.ofNat 8 j)))
      (.bit (answerAt s j) :: byteMarks (bufByte s (BitVec.ofNat 8 j))) :=
    (cells_writeByteTrace _).read (answerAt s j)
  have cells := (cells_writeByteTrace (ctrlByte a false)).append
    ((Cells.flatMap fun j (_ : j ∈ List.range n.toNat) => slot j).append (cells_readCell (answerAt s n.toNat)))
  rw [instrTrace_write, writeBlockTrace, recordAll_frame cells]
  simp

/-- Settles O49: between start and stop stand bit cells only, of either kind. -/
theorem readFrameOnTheBus : Obligations.ReadFrameOnTheBus := by
  intro a n s
  have slot (j : Nat) : Cells ((if j = 0 then [] else writeCell false) ++ readByteTrace s (1 + 8 * j))
      ((if j = 0 then [] else [.bit false]) ++ byteMarks (sampledByte s (1 + 8 * j))) := by
    refine Cells.append ?_ (cells_readByteTrace s _)
    split
    · exact .nil
    · exact cells_writeCell false
  have last : Cells (if s.finalNack = true ∧ n ≠ 0#8 then writeCell true else [])
      (if s.finalNack = true ∧ n ≠ 0#8 then [.bit true] else []) := by
    split
    · exact cells_writeCell true
    · exact .nil
  have cells := (cells_writeByteTrace (ctrlByte a true)).append ((cells_readCell (answerAt s 0)).append
    ((Cells.flatMap fun j (_ : j ∈ List.range n.toNat) => slot j).append last))
  rw [instrTrace_read, readBlockTrace, recordAll_frame cells]
  simp

/-! What the samples decide (R175) -/

theorem skeleton_readCell (b : Bool) : (readCell b).map skeleton = readCell false := rfl

theorem skeleton_readByteTrace (s : State) (j : Nat) :
    (readByteTrace s j).map skeleton = (List.range 8).flatMap fun _ => readCell false := by
  simp only [readByteTrace, List.map_flatMap, skeleton_readCell]

/-- The slots of the bytes read show nothing but their number. -/
theorem skeleton_readBlockTrace (s t : State) (n : Nat) :
    (readBlockTrace s n).map skeleton = (readBlockTrace t n).map skeleton := by
  simp only [readBlockTrace, List.map_flatMap, List.map_append, skeleton_readByteTrace]

/-- The slots of a payload show the bytes sent. -/
theorem skeleton_writeBlockTrace {s t : State} {n : Byte} (h : ∀ x, x < n → bufByte s x = bufByte t x) :
    (writeBlockTrace s n.toNat).map skeleton = (writeBlockTrace t n.toNat).map skeleton := by
  simp only [writeBlockTrace, List.map_flatMap, List.map_append, skeleton_readCell]
  refine List.flatMap_congr fun j hj => ?_
  have below : BitVec.ofNat 8 j < n := by
    have := List.mem_range.1 hj
    have := n.isLt
    rw [BitVec.lt_def, BitVec.toNat_ofNat]
    omega
  rw [h _ below]

/-- Settles O47: a slot shows its kind; the bytes sent come from the address and from BUF. -/
theorem samplesDecideNoAction : Obligations.SamplesDecideNoAction := by
  intro i h s t hh param buf
  cases i with
  | write a n =>
    cases hh
    have payload := skeleton_writeBlockTrace (n := n) (buf (by simp))
    simp only [instrTrace_write, List.map_append, skeleton_readCell, payload]
  | read a n =>
    simp only [instrTrace_read, List.map_append, skeleton_readCell, skeleton_readBlockTrace s t, param]
  | writeBegin a =>
    rw [instrTrace_of_command s rfl, instrTrace_of_command t rfl, scriptOf, scriptOf, traceOf_writeBeginScript,
      traceOf_writeBeginScript, accept_addrr, accept_addrr]
  | writeBlock n =>
    cases hh
    rw [instrTrace_of_command s rfl, instrTrace_of_command t rfl, scriptOf, scriptOf, traceOf_writeBlockScript,
      traceOf_writeBlockScript, writeBlockTrace_accept, writeBlockTrace_accept]
    exact skeleton_writeBlockTrace (buf (by simp))
  | writeEnd =>
    rw [instrTrace_of_command s rfl, instrTrace_of_command t rfl, scriptOf, scriptOf, traceOf_writeEndScript,
      traceOf_writeEndScript]
    rfl
  | _ => cases hh

end Sys2Proof.Machine
end
